-- ==== Sys2Proof/Word.lean ====
section
/-! DEFINITION. The two widths of the machine (spec/00_scope.md R6: "Data path 8 bits; every memory
location holds one byte; every address is 16 bits"). -/

namespace Sys2Proof

/-- One byte: the data path and every memory location (R6). -/
abbrev Byte := BitVec 8

/-- One 16-bit word: every address, `PC`, and the SM83 register pairs (R6). -/
abbrev Word := BitVec 16

/-- A colour index or a shade of the G-stack picture, 0 to 3 (R55, R599). -/
abbrev Shade := BitVec 2

end Sys2Proof
end

