-- ==== Sys2Proof/Config.lean ====
section
/-! DEFINITION. What is fixed for the machine: the named parameters of spec/00_scope.md R7, the stack
that the session of `State.reset` runs, and the answers of the units outside the block, which the
spec leaves free (R20: "an oracle the model does not compute"). -/

namespace Sys2Proof

/-- Which of the two machines a session is (R1, R630; 93_implementation_defined.md U39). -/
inductive StackId where
  /-- The NES-family machine with the M6502 core. -/
  | nStack
  /-- The Game Boy-family machine with the SM83 core. -/
  | gStack
  deriving DecidableEq, Repr

/-- What the block does to a unit outside it: the N-stack picture unit (R80) or the G-stack audio
unit (R98). A list of these, newest first, is all that the unit has seen of the block. -/
inductive PortEvent where
  /-- The unit that the session has, with everything inside it: which of all possible units it is. -/
  | attach (unit : Nat)
  /-- The mirroring flag of the cartridge header, passed to the picture unit (R29). -/
  | mirroring (vertical : Bool)
  /-- `PpuPortRead(i)` or `ApuPortRead(a)`: the register number or the address. -/
  | read (reg : Word)
  /-- `PpuPortWrite(i, v)` or `ApuPortWrite(a, v)`. -/
  | write (reg : Word) (v : Byte)
  /-- The unit is advanced by `c` CPU cycles after a `Step` (R126), or by the reset's charge (R650). -/
  | advance (c : Nat)
  /-- The N-stack mapper 3 presents a character bank (R119). -/
  | charBank (bank : Nat)
  /-- The session is reset. DESIGN CHOICE (assumption log 20): R650 puts the picture unit's own reset
  outside the spec and R651 is silent on the audio unit's, so the unit sees that a Reset came and its
  answers after it stay free. -/
  | reset
  deriving DecidableEq, Repr

/-- The unit in which the cycles of the G-stack are counted (R7 `G_CYCLE`). -/
inductive GCycle where
  /-- The period of the 4.194304 MHz clock. -/
  | tCycle
  /-- Four of those periods, in which the shortest instruction would cost 1. -/
  | mCycle
  deriving DecidableEq, Repr

/-- The cost of the shortest SM83 instruction in that unit (R7 `G_CYCLE`). -/
def GCycle.shortest : GCycle → Nat
  | .tCycle => 4
  | .mCycle => 1

/-- What may end the SM83's stopped state (R7 `G_STOP_WAKE`, R535). -/
inductive StopWake where
  | never
  | joypadIrq
  deriving DecidableEq, Repr

/-- What an undocumented M6502 opcode does (R7 `M_UNDOC`); the spec rules the `fault` value only. -/
inductive UndocOpcode where
  | fault
  | nop
  deriving DecidableEq, Repr

namespace Config

/-- The stack of the session that `State.reset` starts. U39 makes it a parameter chosen at
construction. DESIGN CHOICE (assumption log 2), unsafe: `State.reset` is a G-stack session. -/
def stack : StackId := .gStack

/-- `M_DECIMAL`: ADC and SBC ignore the D flag (R7, R230). -/
def mDecimal : Bool := false
/-- `M_UNDOC`: the 105 undocumented opcodes fault (R7, R300). -/
def mUndoc : UndocOpcode := .fault
/-- `M_INT_CYCLES`: cycles of NMI and IRQ entry and of the reset charge (R7, R503, R650). -/
def mIntCycles : Nat := 7
/-- `M_DMA_UNIT_CYCLES` (R7, R87). -/
def mDmaUnitCycles : Nat := 2
/-- `M_DMA_UNITS` (R7, R87). -/
def mDmaUnits : Nat := 256
/-- `G_CYCLE`: every G-stack cycle count of the model is in clock periods (R7, R178; assumption log 18). -/
def gCycle : GCycle := .tCycle
/-- `G_INT_CYCLES` (R7, R528). -/
def gIntCycles : Nat := 20
/-- `G_HALT_STALL` (R7, R502). -/
def gHaltStall : Nat := 4
/-- `G_DMA_UNIT_CYCLES` (R7, R101). -/
def gDmaUnitCycles : Nat := 4
/-- `G_DMA_UNITS` (R7, R101). -/
def gDmaUnits : Nat := 160
/-- `G_HALT_BUG`: the byte after HALT is executed once (R7, R443, R533). -/
def gHaltBug : Bool := false
/-- `G_STOP_WAKE` (R7, R535). -/
def gStopWake : StopWake := .joypadIrq
/-- `G_IF_READ_OR` (R7, R44). -/
def gIfReadOr : Byte := 0xE0
/-- `G_IE_READ_OR` (R7, R45; 90_conflicts.md C3). -/
def gIeReadOr : Byte := 0xE0
/-- `OPEN_BUS_N` (R7, R71). -/
def openBusN : Byte := 0x00
/-- `OPEN_BUS_G` (R7, R71). -/
def openBusG : Byte := 0xFF
/-- `FRAME_BUDGET_N` and `FRAME_BUDGET_G` (R7, R126). -/
def frameBudget : StackId → Nat
  | .nStack => 29781
  | .gStack => 70224
/-- `G_CGB`: no Game Boy Color extension (R3, R7). -/
def gCgb : Bool := false
/-- `PPU_LINES` (R7, R575). -/
def ppuLines : Nat := 154
/-- `PPU_VISIBLE` (R7, R575). -/
def ppuVisible : Nat := 144
/-- `PPU_DOTS` (R7, R575). -/
def ppuDots : Nat := 456
/-- `PPU_MODE2_DOTS` (R7, R575). -/
def ppuMode2Dots : Nat := 80
/-- `PPU_MODE3_DOTS` (R7, R575). -/
def ppuMode3Dots : Nat := 172
/-- The picture is 160 pixels wide (R575). -/
def ppuWidth : Nat := 160
/-- `PPU_SPRITES` (R7, R595). -/
def ppuSprites : Nat := 40
/-- `PPU_SPRITES_PER_LINE` (R7, R595). -/
def ppuSpritesPerLine : Nat := 10
/-- `TIMER_RELOAD_DELAY` (R7, R564). -/
def timerReloadDelay : Nat := 4

/-- FREE VALUE (U14: "any value"): the byte `PpuPortRead(i)` answers after the events listed. -/
opaque ppuPortRead : List PortEvent → Word → Byte
/-- FREE VALUE (U16, R620): whether the external picture unit sets `nmi_pending` in the advance that is
the newest event of the list. -/
opaque ppuPortNmi : List PortEvent → Bool
/-- FREE VALUE (U15: "any value"): the byte `ApuPortRead(a)` answers after the events listed. -/
opaque apuPortRead : List PortEvent → Word → Byte

end Config

end Sys2Proof
end

