-- ==== Sys2Proof/Syntax.lean ====
section
/-! DEFINITION. The instructions of both cores: one constructor for every mnemonic of
spec/opcode_table.json. An M6502 mnemonic has one row per addressing mode, so its constructor carries
the operand in its mode; an SM83 row is one constructor, named after the table's spelling (`m` before an
operand that stands in parentheses: `ld_A_mHLinc` is `LD A,(HL+)`), carrying its immediate. -/

namespace Sys2Proof

/-- The M6502 addressing modes that name a byte of memory or an immediate (R145 to R151, R153, R154). -/
inductive Mode where
  | imm | zp | zpx | zpy | abs | abx | aby | izx | izy
  deriving DecidableEq, Repr

/-- An M6502 operand with its operand bytes; `abs`, `abx` and `aby` carry `{b2, b1}` (R142). -/
inductive Operand where
  | imm (d8 : Byte)
  | zp (d8 : Byte)
  | zpx (d8 : Byte)
  | zpy (d8 : Byte)
  | abs (a16 : Word)
  | abx (a16 : Word)
  | aby (a16 : Word)
  | izx (d8 : Byte)
  | izy (d8 : Byte)
  deriving DecidableEq, Repr

/-- The mode of an operand. -/
def Operand.mode : Operand → Mode
  | .imm _ => .imm
  | .zp _ => .zp
  | .zpx _ => .zpx
  | .zpy _ => .zpy
  | .abs _ => .abs
  | .abx _ => .abx
  | .aby _ => .aby
  | .izx _ => .izx
  | .izy _ => .izy

/-- The operand of ASL, LSR, ROL, ROR: the accumulator (R144) or a byte of memory. -/
inductive ShiftOperand where
  | acc
  | mem (o : Operand)
  deriving DecidableEq, Repr

/-- The operand of JMP: absolute (R149) or absolute indirect (R152). -/
inductive JumpOperand where
  | abs (a16 : Word)
  | ind (a16 : Word)
  deriving DecidableEq, Repr

/-- The SM83 field `r8` (R165): six registers, the byte at `HL`, and `A`. -/
inductive R8 where
  | b | c | d | e | h | l | mHL | a
  deriving DecidableEq, Repr

/-- The SM83 field `r16` (R166). -/
inductive R16 where
  | bc | de | hl | sp
  deriving DecidableEq, Repr

/-- The SM83 field `r16stk` (R167). -/
inductive R16Stk where
  | bc | de | hl | af
  deriving DecidableEq, Repr

/-- The SM83 field `r16mem` (R166): the address, and for `HL+` and `HL-` the change of `HL` after use. -/
inductive R16Mem where
  | bc | de | hlInc | hlDec
  deriving DecidableEq, Repr

/-- The SM83 field `cc` (R167). -/
inductive Cond where
  | nz | z | nc | c
  deriving DecidableEq, Repr

/-- The eight accumulator operations `alu[0..7]` (R161). -/
inductive AluOp where
  | add | adc | sub | sbc | and | xor | or | cp
  deriving DecidableEq, Repr

/-- The eight rotate and shift operations `rot[0..7]` (R164). -/
inductive RotOp where
  | rlc | rrc | rl | rr | sla | sra | swap | srl
  deriving DecidableEq, Repr

/-- Every instruction of both cores. -/
inductive Instr where
  -- The constructors that carry operands come first; the groups within are in the order of the tables.
  -- M6502, with operands (spec/30_encoding.md R176, R177)
  | lda (o : Operand)
  | ldx (o : Operand)
  | ldy (o : Operand)
  | sta (o : Operand)
  | stx (o : Operand)
  | sty (o : Operand)
  | adc (o : Operand)
  | sbc (o : Operand)
  | and (o : Operand)
  | ora (o : Operand)
  | eor (o : Operand)
  | cmp (o : Operand)
  | cpx (o : Operand)
  | cpy (o : Operand)
  | bit (o : Operand)
  | inc (o : Operand)
  | dec (o : Operand)
  | asl (o : ShiftOperand)
  | lsr (o : ShiftOperand)
  | rol (o : ShiftOperand)
  | ror (o : ShiftOperand)
  | bcc (rel8 : Byte)
  | bcs (rel8 : Byte)
  | beq (rel8 : Byte)
  | bne (rel8 : Byte)
  | bmi (rel8 : Byte)
  | bpl (rel8 : Byte)
  | bvc (rel8 : Byte)
  | bvs (rel8 : Byte)
  | jmp (o : JumpOperand)
  | jsr (a16 : Word)
  | ill (op : Byte)
  -- SM83, with operand bytes (R178)
  | ld_BC_d16 (d16 : Word)
  | ld_B_d8 (d8 : Byte)
  | ld_ma16_SP (a16 : Word)
  | ld_C_d8 (d8 : Byte)
  | stop (pad : Byte)
  | ld_DE_d16 (d16 : Word)
  | ld_D_d8 (d8 : Byte)
  | jr_r8 (r8 : Byte)
  | ld_E_d8 (d8 : Byte)
  | jr_NZ_r8 (r8 : Byte)
  | ld_HL_d16 (d16 : Word)
  | ld_H_d8 (d8 : Byte)
  | jr_Z_r8 (r8 : Byte)
  | ld_L_d8 (d8 : Byte)
  | jr_NC_r8 (r8 : Byte)
  | ld_SP_d16 (d16 : Word)
  | ld_mHL_d8 (d8 : Byte)
  | jr_C_r8 (r8 : Byte)
  | ld_A_d8 (d8 : Byte)
  | jp_NZ_a16 (a16 : Word)
  | jp_a16 (a16 : Word)
  | call_NZ_a16 (a16 : Word)
  | add_A_d8 (d8 : Byte)
  | jp_Z_a16 (a16 : Word)
  | prefixCB (cbop : Byte)
  | call_Z_a16 (a16 : Word)
  | call_a16 (a16 : Word)
  | adc_A_d8 (d8 : Byte)
  | jp_NC_a16 (a16 : Word)
  | call_NC_a16 (a16 : Word)
  | sub_d8 (d8 : Byte)
  | jp_C_a16 (a16 : Word)
  | call_C_a16 (a16 : Word)
  | sbc_A_d8 (d8 : Byte)
  | ldh_ma8_A (a8 : Byte)
  | and_d8 (d8 : Byte)
  | add_SP_r8 (r8 : Byte)
  | ld_ma16_A (a16 : Word)
  | xor_d8 (d8 : Byte)
  | ldh_A_ma8 (a8 : Byte)
  | or_d8 (d8 : Byte)
  | ld_HL_SPr8 (r8 : Byte)
  | ld_A_ma16 (a16 : Word)
  | cp_d8 (d8 : Byte)
  -- M6502, one byte (R176)
  | tax
  | tay
  | txa
  | tya
  | tsx
  | txs
  | pha
  | php
  | pla
  | plp
  | inx
  | iny
  | dex
  | dey
  | rts
  | rti
  | brk
  | clc
  | sec
  | cli
  | sei
  | cld
  | sed
  | clv
  | nop_6502
  -- SM83 base table, one byte (R178)
  | nop_sm83
  | ld_mBC_A
  | inc_BC
  | inc_B
  | dec_B
  | rlca
  | add_HL_BC
  | ld_A_mBC
  | dec_BC
  | inc_C
  | dec_C
  | rrca
  | ld_mDE_A
  | inc_DE
  | inc_D
  | dec_D
  | rla
  | add_HL_DE
  | ld_A_mDE
  | dec_DE
  | inc_E
  | dec_E
  | rra
  | ld_mHLinc_A
  | inc_HL
  | inc_H
  | dec_H
  | daa
  | add_HL_HL
  | ld_A_mHLinc
  | dec_HL
  | inc_L
  | dec_L
  | cpl
  | ld_mHLdec_A
  | inc_SP
  | inc_mHL
  | dec_mHL
  | scf
  | add_HL_SP
  | ld_A_mHLdec
  | dec_SP
  | inc_A
  | dec_A
  | ccf
  | ld_B_B
  | ld_B_C
  | ld_B_D
  | ld_B_E
  | ld_B_H
  | ld_B_L
  | ld_B_mHL
  | ld_B_A
  | ld_C_B
  | ld_C_C
  | ld_C_D
  | ld_C_E
  | ld_C_H
  | ld_C_L
  | ld_C_mHL
  | ld_C_A
  | ld_D_B
  | ld_D_C
  | ld_D_D
  | ld_D_E
  | ld_D_H
  | ld_D_L
  | ld_D_mHL
  | ld_D_A
  | ld_E_B
  | ld_E_C
  | ld_E_D
  | ld_E_E
  | ld_E_H
  | ld_E_L
  | ld_E_mHL
  | ld_E_A
  | ld_H_B
  | ld_H_C
  | ld_H_D
  | ld_H_E
  | ld_H_H
  | ld_H_L
  | ld_H_mHL
  | ld_H_A
  | ld_L_B
  | ld_L_C
  | ld_L_D
  | ld_L_E
  | ld_L_H
  | ld_L_L
  | ld_L_mHL
  | ld_L_A
  | ld_mHL_B
  | ld_mHL_C
  | ld_mHL_D
  | ld_mHL_E
  | ld_mHL_H
  | ld_mHL_L
  | halt
  | ld_mHL_A
  | ld_A_B
  | ld_A_C
  | ld_A_D
  | ld_A_E
  | ld_A_H
  | ld_A_L
  | ld_A_mHL
  | ld_A_A
  | add_A_B
  | add_A_C
  | add_A_D
  | add_A_E
  | add_A_H
  | add_A_L
  | add_A_mHL
  | add_A_A
  | adc_A_B
  | adc_A_C
  | adc_A_D
  | adc_A_E
  | adc_A_H
  | adc_A_L
  | adc_A_mHL
  | adc_A_A
  | sub_B
  | sub_C
  | sub_D
  | sub_E
  | sub_H
  | sub_L
  | sub_mHL
  | sub_A
  | sbc_A_B
  | sbc_A_C
  | sbc_A_D
  | sbc_A_E
  | sbc_A_H
  | sbc_A_L
  | sbc_A_mHL
  | sbc_A_A
  | and_B
  | and_C
  | and_D
  | and_E
  | and_H
  | and_L
  | and_mHL
  | and_A
  | xor_B
  | xor_C
  | xor_D
  | xor_E
  | xor_H
  | xor_L
  | xor_mHL
  | xor_A
  | or_B
  | or_C
  | or_D
  | or_E
  | or_H
  | or_L
  | or_mHL
  | or_A
  | cp_B
  | cp_C
  | cp_D
  | cp_E
  | cp_H
  | cp_L
  | cp_mHL
  | cp_A
  | ret_NZ
  | pop_BC
  | push_BC
  | rst_00H
  | ret_Z
  | ret
  | rst_08H
  | ret_NC
  | pop_DE
  | illegal_D3
  | push_DE
  | rst_10H
  | ret_C
  | reti
  | illegal_DB
  | illegal_DD
  | rst_18H
  | pop_HL
  | ld_mC_A
  | illegal_E3
  | illegal_E4
  | push_HL
  | rst_20H
  | jp_HL
  | illegal_EB
  | illegal_EC
  | illegal_ED
  | rst_28H
  | pop_AF
  | ld_A_mC
  | di
  | illegal_F4
  | push_AF
  | rst_30H
  | ld_SP_HL
  | ei
  | illegal_FC
  | illegal_FD
  | rst_38H
  -- SM83 CB table (R179)
  | rlc_B
  | rlc_C
  | rlc_D
  | rlc_E
  | rlc_H
  | rlc_L
  | rlc_mHL
  | rlc_A
  | rrc_B
  | rrc_C
  | rrc_D
  | rrc_E
  | rrc_H
  | rrc_L
  | rrc_mHL
  | rrc_A
  | rl_B
  | rl_C
  | rl_D
  | rl_E
  | rl_H
  | rl_L
  | rl_mHL
  | rl_A
  | rr_B
  | rr_C
  | rr_D
  | rr_E
  | rr_H
  | rr_L
  | rr_mHL
  | rr_A
  | sla_B
  | sla_C
  | sla_D
  | sla_E
  | sla_H
  | sla_L
  | sla_mHL
  | sla_A
  | sra_B
  | sra_C
  | sra_D
  | sra_E
  | sra_H
  | sra_L
  | sra_mHL
  | sra_A
  | swap_B
  | swap_C
  | swap_D
  | swap_E
  | swap_H
  | swap_L
  | swap_mHL
  | swap_A
  | srl_B
  | srl_C
  | srl_D
  | srl_E
  | srl_H
  | srl_L
  | srl_mHL
  | srl_A
  | bit_0_B
  | bit_0_C
  | bit_0_D
  | bit_0_E
  | bit_0_H
  | bit_0_L
  | bit_0_mHL
  | bit_0_A
  | bit_1_B
  | bit_1_C
  | bit_1_D
  | bit_1_E
  | bit_1_H
  | bit_1_L
  | bit_1_mHL
  | bit_1_A
  | bit_2_B
  | bit_2_C
  | bit_2_D
  | bit_2_E
  | bit_2_H
  | bit_2_L
  | bit_2_mHL
  | bit_2_A
  | bit_3_B
  | bit_3_C
  | bit_3_D
  | bit_3_E
  | bit_3_H
  | bit_3_L
  | bit_3_mHL
  | bit_3_A
  | bit_4_B
  | bit_4_C
  | bit_4_D
  | bit_4_E
  | bit_4_H
  | bit_4_L
  | bit_4_mHL
  | bit_4_A
  | bit_5_B
  | bit_5_C
  | bit_5_D
  | bit_5_E
  | bit_5_H
  | bit_5_L
  | bit_5_mHL
  | bit_5_A
  | bit_6_B
  | bit_6_C
  | bit_6_D
  | bit_6_E
  | bit_6_H
  | bit_6_L
  | bit_6_mHL
  | bit_6_A
  | bit_7_B
  | bit_7_C
  | bit_7_D
  | bit_7_E
  | bit_7_H
  | bit_7_L
  | bit_7_mHL
  | bit_7_A
  | res_0_B
  | res_0_C
  | res_0_D
  | res_0_E
  | res_0_H
  | res_0_L
  | res_0_mHL
  | res_0_A
  | res_1_B
  | res_1_C
  | res_1_D
  | res_1_E
  | res_1_H
  | res_1_L
  | res_1_mHL
  | res_1_A
  | res_2_B
  | res_2_C
  | res_2_D
  | res_2_E
  | res_2_H
  | res_2_L
  | res_2_mHL
  | res_2_A
  | res_3_B
  | res_3_C
  | res_3_D
  | res_3_E
  | res_3_H
  | res_3_L
  | res_3_mHL
  | res_3_A
  | res_4_B
  | res_4_C
  | res_4_D
  | res_4_E
  | res_4_H
  | res_4_L
  | res_4_mHL
  | res_4_A
  | res_5_B
  | res_5_C
  | res_5_D
  | res_5_E
  | res_5_H
  | res_5_L
  | res_5_mHL
  | res_5_A
  | res_6_B
  | res_6_C
  | res_6_D
  | res_6_E
  | res_6_H
  | res_6_L
  | res_6_mHL
  | res_6_A
  | res_7_B
  | res_7_C
  | res_7_D
  | res_7_E
  | res_7_H
  | res_7_L
  | res_7_mHL
  | res_7_A
  | set_0_B
  | set_0_C
  | set_0_D
  | set_0_E
  | set_0_H
  | set_0_L
  | set_0_mHL
  | set_0_A
  | set_1_B
  | set_1_C
  | set_1_D
  | set_1_E
  | set_1_H
  | set_1_L
  | set_1_mHL
  | set_1_A
  | set_2_B
  | set_2_C
  | set_2_D
  | set_2_E
  | set_2_H
  | set_2_L
  | set_2_mHL
  | set_2_A
  | set_3_B
  | set_3_C
  | set_3_D
  | set_3_E
  | set_3_H
  | set_3_L
  | set_3_mHL
  | set_3_A
  | set_4_B
  | set_4_C
  | set_4_D
  | set_4_E
  | set_4_H
  | set_4_L
  | set_4_mHL
  | set_4_A
  | set_5_B
  | set_5_C
  | set_5_D
  | set_5_E
  | set_5_H
  | set_5_L
  | set_5_mHL
  | set_5_A
  | set_6_B
  | set_6_C
  | set_6_D
  | set_6_E
  | set_6_H
  | set_6_L
  | set_6_mHL
  | set_6_A
  | set_7_B
  | set_7_C
  | set_7_D
  | set_7_E
  | set_7_H
  | set_7_L
  | set_7_mHL
  | set_7_A
  deriving DecidableEq, Repr

end Sys2Proof
end

