-- ==== Sys2Proof/WellFormed.lean ====
section
/-! DEFINITION. Which terms of `Instr` stand for words of the opcode tables: an M6502 mnemonic only in
the modes its rule lists (R177), `ill` only with one of the 105 undocumented opcodes (R300), and
`prefixCB` never, since the byte 0xCB "is not an instruction by itself" (R448). -/

namespace Sys2Proof

/-- The core whose table an instruction stands in: the 57 M6502 constructors, and the SM83's. -/
def Instr.stack : Instr → StackId
  | .lda _ | .ldx _ | .ldy _ | .sta _ | .stx _ | .sty _ => .nStack
  | .tax | .tay | .txa | .tya | .tsx | .txs | .pha | .php | .pla | .plp => .nStack
  | .adc _ | .sbc _ | .and _ | .ora _ | .eor _ | .cmp _ | .cpx _ | .cpy _ | .bit _ => .nStack
  | .inc _ | .dec _ | .inx | .iny | .dex | .dey => .nStack
  | .asl _ | .lsr _ | .rol _ | .ror _ => .nStack
  | .bcc _ | .bcs _ | .beq _ | .bne _ | .bmi _ | .bpl _ | .bvc _ | .bvs _ => .nStack
  | .jmp _ | .jsr _ | .rts | .rti | .brk => .nStack
  | .clc | .sec | .cli | .sei | .cld | .sed | .clv | .nop_6502 | .ill _ => .nStack
  | _ => .gStack

/-- The modes of LDA, ADC, SBC, AND, ORA, EOR, CMP (R203, R233 to R238). -/
def aluModes : List Mode := [.imm, .zp, .zpx, .abs, .abx, .aby, .izx, .izy]
/-- The modes of STA (R206). -/
def staModes : List Mode := [.zp, .zpx, .abs, .abx, .aby, .izx, .izy]
/-- The modes of LDX (R204). -/
def ldxModes : List Mode := [.imm, .zp, .zpy, .abs, .aby]
/-- The modes of LDY (R205). -/
def ldyModes : List Mode := [.imm, .zp, .zpx, .abs, .abx]
/-- The modes of STX (R207). -/
def stxModes : List Mode := [.zp, .zpy, .abs]
/-- The modes of STY (R208). -/
def styModes : List Mode := [.zp, .zpx, .abs]
/-- The modes of CPX and CPY (R239, R240). -/
def cpxModes : List Mode := [.imm, .zp, .abs]
/-- The modes of BIT (R241). -/
def bitModes : List Mode := [.zp, .abs]
/-- The modes of the read-modify-write instructions on memory (R242, R243, R248 to R251). -/
def rmwModes : List Mode := [.zp, .zpx, .abs, .abx]

/-- Whether a shift operand has an encoding: the accumulator, or a read-modify-write mode. -/
def ShiftOperand.ok : ShiftOperand → Bool
  | .acc => true
  | .mem o => rmwModes.contains o.mode

/-- The 105 opcodes with no documented instruction: the cells `ill` and `kil` of the matrix of R176. -/
def undocumentedOpcodes : List Byte :=
  [0x02, 0x03, 0x04, 0x07, 0x0B, 0x0C, 0x0F] ++
  [0x12, 0x13, 0x14, 0x17, 0x1A, 0x1B, 0x1C, 0x1F] ++
  [0x22, 0x23, 0x27, 0x2B, 0x2F] ++
  [0x32, 0x33, 0x34, 0x37, 0x3A, 0x3B, 0x3C, 0x3F] ++
  [0x42, 0x43, 0x44, 0x47, 0x4B, 0x4F] ++
  [0x52, 0x53, 0x54, 0x57, 0x5A, 0x5B, 0x5C, 0x5F] ++
  [0x62, 0x63, 0x64, 0x67, 0x6B, 0x6F] ++
  [0x72, 0x73, 0x74, 0x77, 0x7A, 0x7B, 0x7C, 0x7F] ++
  [0x80, 0x82, 0x83, 0x87, 0x89, 0x8B, 0x8F] ++
  [0x92, 0x93, 0x97, 0x9B, 0x9C, 0x9E, 0x9F] ++
  [0xA3, 0xA7, 0xAB, 0xAF] ++
  [0xB2, 0xB3, 0xB7, 0xBB, 0xBF] ++
  [0xC2, 0xC3, 0xC7, 0xCB, 0xCF] ++
  [0xD2, 0xD3, 0xD4, 0xD7, 0xDA, 0xDB, 0xDC, 0xDF] ++
  [0xE2, 0xE3, 0xE7, 0xEB, 0xEF] ++
  [0xF2, 0xF3, 0xF4, 0xF7, 0xFA, 0xFB, 0xFC, 0xFF]

/-- The term is one that words of the opcode tables stand for. The SM83 instructions carry exactly the
bytes of their encoding, so every SM83 term but `prefixCB` is well formed. -/
def WellFormed : Instr → Bool
  | .lda o | .adc o | .sbc o | .and o | .ora o | .eor o | .cmp o => aluModes.contains o.mode
  | .sta o => staModes.contains o.mode
  | .ldx o => ldxModes.contains o.mode
  | .ldy o => ldyModes.contains o.mode
  | .stx o => stxModes.contains o.mode
  | .sty o => styModes.contains o.mode
  | .cpx o | .cpy o => cpxModes.contains o.mode
  | .bit o => bitModes.contains o.mode
  | .inc o | .dec o => rmwModes.contains o.mode
  | .asl o | .lsr o | .rol o | .ror o => o.ok
  | .ill op => undocumentedOpcodes.contains op
  | .prefixCB _ => false
  | _ => true

end Sys2Proof
end

