-- ==== Sys2Proof/Decode.lean ====
section
/-! DEFINITION. The decoder, total on any bytes, written as the opcode matrices of spec/30_encoding.md
(R176, R178, R179), and after it the encoder, written from the encoding lines of the instruction
rules (R177, R203 to R282, R312 to R481). -/

namespace Sys2Proof

/-- `(hi, lo)` as one word, `hi` in the high bits (R11). -/
def join (hi lo : Byte) : Word := hi ++ lo
/-- The low byte of a word, `v[7:0]`. -/
def loByte (w : Word) : Byte := w.extractLsb' 0 8
/-- The high byte of a word, `v[15:8]`. -/
def hiByte (w : Word) : Byte := w.extractLsb' 8 8
/-- `zext_16(v)` (R11). -/
def zext16 (b : Byte) : Word := b.zeroExtend 16
/-- `sext_16(v)` (R11). -/
def sext16 (b : Byte) : Word := b.signExtend 16
/-- The two bytes of a 16-bit operand as they stand in memory, the low byte first (R110). -/
def wordBytes (w : Word) : List Byte := [loByte w, hiByte w]

/-- One entry of an opcode table: the length in bytes, and the instruction that the operand bytes
`b1`, `b2` complete (R140, R142, R160). -/
structure OpRow where
  len : Nat
  instr : Byte → Byte → Instr

namespace OpRow

/-- A 1-byte M6502 entry of mode `imp` (R143). -/
def imp (i : Instr) : OpRow := ⟨1, fun _ _ => i⟩
/-- A 1-byte entry of mode `acc` (R144). -/
def acc (f : ShiftOperand → Instr) : OpRow := ⟨1, fun _ _ => f .acc⟩
/-- A 2-byte entry of mode `rel` (R155). -/
def rel (f : Byte → Instr) : OpRow := ⟨2, fun b1 _ => f b1⟩
/-- An entry in one of the modes of `Mode` (R145 to R151, R153, R154). -/
def mem (f : Operand → Instr) : Mode → OpRow
  | .imm => ⟨2, fun b1 _ => f (.imm b1)⟩
  | .zp => ⟨2, fun b1 _ => f (.zp b1)⟩
  | .zpx => ⟨2, fun b1 _ => f (.zpx b1)⟩
  | .zpy => ⟨2, fun b1 _ => f (.zpy b1)⟩
  | .abs => ⟨3, fun b1 b2 => f (.abs (join b2 b1))⟩
  | .abx => ⟨3, fun b1 b2 => f (.abx (join b2 b1))⟩
  | .aby => ⟨3, fun b1 b2 => f (.aby (join b2 b1))⟩
  | .izx => ⟨2, fun b1 _ => f (.izx b1)⟩
  | .izy => ⟨2, fun b1 _ => f (.izy b1)⟩
/-- A memory form of ASL, LSR, ROL, ROR. -/
def shf (f : ShiftOperand → Instr) (m : Mode) : OpRow := mem (fun o => f (.mem o)) m
/-- A form of JMP (R149, R152). -/
def jum (f : JumpOperand → Instr) (g : Word → JumpOperand) : OpRow :=
  ⟨3, fun b1 b2 => f (g (join b2 b1))⟩
/-- A 3-byte entry whose operand is an absolute address. -/
def opa (f : Word → Instr) : OpRow := ⟨3, fun b1 b2 => f (join b2 b1)⟩
/-- An undocumented opcode (R300); no operand byte is fetched. -/
def ill (op : Byte) : OpRow := ⟨1, fun _ _ => .ill op⟩
/-- One of the twelve kill opcodes of the real chip: handled as the other undocumented ones (R301). -/
def kil (op : Byte) : OpRow := ill op
/-- An SM83 entry of format G1 (R160). -/
def g1 (i : Instr) : OpRow := ⟨1, fun _ _ => i⟩
/-- An SM83 entry of format G2, G2a, G2r or G2p (R160). -/
def g2 (f : Byte → Instr) : OpRow := ⟨2, fun b1 _ => f b1⟩
/-- An SM83 entry of format G3 (R160). -/
def g3 (f : Word → Instr) : OpRow := ⟨3, fun b1 b2 => f (join b2 b1)⟩

end OpRow

open OpRow

/-! The M6502 table (R176). -/

/-- R176, row 0x00 to 0x0F. -/
def m6502Row00 : List OpRow :=
  [imp .brk, mem .ora .izx, kil 0x02, ill 0x03, ill 0x04, mem .ora .zp, shf .asl .zp, ill 0x07, imp .php,
   mem .ora .imm, acc .asl, ill 0x0B, ill 0x0C, mem .ora .abs, shf .asl .abs, ill 0x0F]
/-- R176, row 0x10 to 0x1F. -/
def m6502Row10 : List OpRow :=
  [rel .bpl, mem .ora .izy, kil 0x12, ill 0x13, ill 0x14, mem .ora .zpx, shf .asl .zpx, ill 0x17, imp .clc,
   mem .ora .aby, ill 0x1A, ill 0x1B, ill 0x1C, mem .ora .abx, shf .asl .abx, ill 0x1F]
/-- R176, row 0x20 to 0x2F. -/
def m6502Row20 : List OpRow :=
  [opa .jsr, mem .and .izx, kil 0x22, ill 0x23, mem .bit .zp, mem .and .zp, shf .rol .zp, ill 0x27,
   imp .plp, mem .and .imm, acc .rol, ill 0x2B, mem .bit .abs, mem .and .abs, shf .rol .abs, ill 0x2F]
/-- R176, row 0x30 to 0x3F. -/
def m6502Row30 : List OpRow :=
  [rel .bmi, mem .and .izy, kil 0x32, ill 0x33, ill 0x34, mem .and .zpx, shf .rol .zpx, ill 0x37, imp .sec,
   mem .and .aby, ill 0x3A, ill 0x3B, ill 0x3C, mem .and .abx, shf .rol .abx, ill 0x3F]
/-- R176, row 0x40 to 0x4F. -/
def m6502Row40 : List OpRow :=
  [imp .rti, mem .eor .izx, kil 0x42, ill 0x43, ill 0x44, mem .eor .zp, shf .lsr .zp, ill 0x47, imp .pha,
   mem .eor .imm, acc .lsr, ill 0x4B, jum .jmp .abs, mem .eor .abs, shf .lsr .abs, ill 0x4F]
/-- R176, row 0x50 to 0x5F. -/
def m6502Row50 : List OpRow :=
  [rel .bvc, mem .eor .izy, kil 0x52, ill 0x53, ill 0x54, mem .eor .zpx, shf .lsr .zpx, ill 0x57, imp .cli,
   mem .eor .aby, ill 0x5A, ill 0x5B, ill 0x5C, mem .eor .abx, shf .lsr .abx, ill 0x5F]
/-- R176, row 0x60 to 0x6F. -/
def m6502Row60 : List OpRow :=
  [imp .rts, mem .adc .izx, kil 0x62, ill 0x63, ill 0x64, mem .adc .zp, shf .ror .zp, ill 0x67, imp .pla,
   mem .adc .imm, acc .ror, ill 0x6B, jum .jmp .ind, mem .adc .abs, shf .ror .abs, ill 0x6F]
/-- R176, row 0x70 to 0x7F. -/
def m6502Row70 : List OpRow :=
  [rel .bvs, mem .adc .izy, kil 0x72, ill 0x73, ill 0x74, mem .adc .zpx, shf .ror .zpx, ill 0x77, imp .sei,
   mem .adc .aby, ill 0x7A, ill 0x7B, ill 0x7C, mem .adc .abx, shf .ror .abx, ill 0x7F]
/-- R176, row 0x80 to 0x8F. -/
def m6502Row80 : List OpRow :=
  [ill 0x80, mem .sta .izx, ill 0x82, ill 0x83, mem .sty .zp, mem .sta .zp, mem .stx .zp, ill 0x87,
   imp .dey, ill 0x89, imp .txa, ill 0x8B, mem .sty .abs, mem .sta .abs, mem .stx .abs, ill 0x8F]
/-- R176, row 0x90 to 0x9F. -/
def m6502Row90 : List OpRow :=
  [rel .bcc, mem .sta .izy, kil 0x92, ill 0x93, mem .sty .zpx, mem .sta .zpx, mem .stx .zpy, ill 0x97,
   imp .tya, mem .sta .aby, imp .txs, ill 0x9B, ill 0x9C, mem .sta .abx, ill 0x9E, ill 0x9F]
/-- R176, row 0xA0 to 0xAF. -/
def m6502RowA0 : List OpRow :=
  [mem .ldy .imm, mem .lda .izx, mem .ldx .imm, ill 0xA3, mem .ldy .zp, mem .lda .zp, mem .ldx .zp,
   ill 0xA7, imp .tay, mem .lda .imm, imp .tax, ill 0xAB, mem .ldy .abs, mem .lda .abs, mem .ldx .abs,
   ill 0xAF]
/-- R176, row 0xB0 to 0xBF. -/
def m6502RowB0 : List OpRow :=
  [rel .bcs, mem .lda .izy, kil 0xB2, ill 0xB3, mem .ldy .zpx, mem .lda .zpx, mem .ldx .zpy, ill 0xB7,
   imp .clv, mem .lda .aby, imp .tsx, ill 0xBB, mem .ldy .abx, mem .lda .abx, mem .ldx .aby, ill 0xBF]
/-- R176, row 0xC0 to 0xCF. -/
def m6502RowC0 : List OpRow :=
  [mem .cpy .imm, mem .cmp .izx, ill 0xC2, ill 0xC3, mem .cpy .zp, mem .cmp .zp, mem .dec .zp, ill 0xC7,
   imp .iny, mem .cmp .imm, imp .dex, ill 0xCB, mem .cpy .abs, mem .cmp .abs, mem .dec .abs, ill 0xCF]
/-- R176, row 0xD0 to 0xDF. -/
def m6502RowD0 : List OpRow :=
  [rel .bne, mem .cmp .izy, kil 0xD2, ill 0xD3, ill 0xD4, mem .cmp .zpx, mem .dec .zpx, ill 0xD7, imp .cld,
   mem .cmp .aby, ill 0xDA, ill 0xDB, ill 0xDC, mem .cmp .abx, mem .dec .abx, ill 0xDF]
/-- R176, row 0xE0 to 0xEF. -/
def m6502RowE0 : List OpRow :=
  [mem .cpx .imm, mem .sbc .izx, ill 0xE2, ill 0xE3, mem .cpx .zp, mem .sbc .zp, mem .inc .zp, ill 0xE7,
   imp .inx, mem .sbc .imm, imp .nop_6502, ill 0xEB, mem .cpx .abs, mem .sbc .abs, mem .inc .abs, ill 0xEF]
/-- R176, row 0xF0 to 0xFF. -/
def m6502RowF0 : List OpRow :=
  [rel .beq, mem .sbc .izy, kil 0xF2, ill 0xF3, ill 0xF4, mem .sbc .zpx, mem .inc .zpx, ill 0xF7, imp .sed,
   mem .sbc .aby, ill 0xFA, ill 0xFB, ill 0xFC, mem .sbc .abx, mem .inc .abx, ill 0xFF]

/-- The M6502 opcode table, row by row. -/
def m6502Table : List (List OpRow) :=
  [m6502Row00, m6502Row10, m6502Row20, m6502Row30, m6502Row40, m6502Row50, m6502Row60, m6502Row70,
   m6502Row80, m6502Row90, m6502RowA0, m6502RowB0, m6502RowC0, m6502RowD0, m6502RowE0, m6502RowF0]

/-- The M6502 entry of an opcode byte. -/
def m6502Row (op : Byte) : OpRow :=
  (m6502Table.getD (op.toNat / 16) []).getD (op.toNat % 16) (ill op)

/-! The SM83 second table (R164, R179). -/

/-- R179, second bytes 0x00 to 0x0F. -/
def cbRow00 : List Instr :=
  [.rlc_B, .rlc_C, .rlc_D, .rlc_E, .rlc_H, .rlc_L, .rlc_mHL, .rlc_A, .rrc_B, .rrc_C, .rrc_D, .rrc_E,
   .rrc_H, .rrc_L, .rrc_mHL, .rrc_A]
/-- R179, second bytes 0x10 to 0x1F. -/
def cbRow10 : List Instr :=
  [.rl_B, .rl_C, .rl_D, .rl_E, .rl_H, .rl_L, .rl_mHL, .rl_A, .rr_B, .rr_C, .rr_D, .rr_E, .rr_H, .rr_L,
   .rr_mHL, .rr_A]
/-- R179, second bytes 0x20 to 0x2F. -/
def cbRow20 : List Instr :=
  [.sla_B, .sla_C, .sla_D, .sla_E, .sla_H, .sla_L, .sla_mHL, .sla_A, .sra_B, .sra_C, .sra_D, .sra_E,
   .sra_H, .sra_L, .sra_mHL, .sra_A]
/-- R179, second bytes 0x30 to 0x3F. -/
def cbRow30 : List Instr :=
  [.swap_B, .swap_C, .swap_D, .swap_E, .swap_H, .swap_L, .swap_mHL, .swap_A, .srl_B, .srl_C, .srl_D,
   .srl_E, .srl_H, .srl_L, .srl_mHL, .srl_A]
/-- R179, second bytes 0x40 to 0x4F. -/
def cbRow40 : List Instr :=
  [.bit_0_B, .bit_0_C, .bit_0_D, .bit_0_E, .bit_0_H, .bit_0_L, .bit_0_mHL, .bit_0_A, .bit_1_B, .bit_1_C,
   .bit_1_D, .bit_1_E, .bit_1_H, .bit_1_L, .bit_1_mHL, .bit_1_A]
/-- R179, second bytes 0x50 to 0x5F. -/
def cbRow50 : List Instr :=
  [.bit_2_B, .bit_2_C, .bit_2_D, .bit_2_E, .bit_2_H, .bit_2_L, .bit_2_mHL, .bit_2_A, .bit_3_B, .bit_3_C,
   .bit_3_D, .bit_3_E, .bit_3_H, .bit_3_L, .bit_3_mHL, .bit_3_A]
/-- R179, second bytes 0x60 to 0x6F. -/
def cbRow60 : List Instr :=
  [.bit_4_B, .bit_4_C, .bit_4_D, .bit_4_E, .bit_4_H, .bit_4_L, .bit_4_mHL, .bit_4_A, .bit_5_B, .bit_5_C,
   .bit_5_D, .bit_5_E, .bit_5_H, .bit_5_L, .bit_5_mHL, .bit_5_A]
/-- R179, second bytes 0x70 to 0x7F. -/
def cbRow70 : List Instr :=
  [.bit_6_B, .bit_6_C, .bit_6_D, .bit_6_E, .bit_6_H, .bit_6_L, .bit_6_mHL, .bit_6_A, .bit_7_B, .bit_7_C,
   .bit_7_D, .bit_7_E, .bit_7_H, .bit_7_L, .bit_7_mHL, .bit_7_A]
/-- R179, second bytes 0x80 to 0x8F. -/
def cbRow80 : List Instr :=
  [.res_0_B, .res_0_C, .res_0_D, .res_0_E, .res_0_H, .res_0_L, .res_0_mHL, .res_0_A, .res_1_B, .res_1_C,
   .res_1_D, .res_1_E, .res_1_H, .res_1_L, .res_1_mHL, .res_1_A]
/-- R179, second bytes 0x90 to 0x9F. -/
def cbRow90 : List Instr :=
  [.res_2_B, .res_2_C, .res_2_D, .res_2_E, .res_2_H, .res_2_L, .res_2_mHL, .res_2_A, .res_3_B, .res_3_C,
   .res_3_D, .res_3_E, .res_3_H, .res_3_L, .res_3_mHL, .res_3_A]
/-- R179, second bytes 0xA0 to 0xAF. -/
def cbRowA0 : List Instr :=
  [.res_4_B, .res_4_C, .res_4_D, .res_4_E, .res_4_H, .res_4_L, .res_4_mHL, .res_4_A, .res_5_B, .res_5_C,
   .res_5_D, .res_5_E, .res_5_H, .res_5_L, .res_5_mHL, .res_5_A]
/-- R179, second bytes 0xB0 to 0xBF. -/
def cbRowB0 : List Instr :=
  [.res_6_B, .res_6_C, .res_6_D, .res_6_E, .res_6_H, .res_6_L, .res_6_mHL, .res_6_A, .res_7_B, .res_7_C,
   .res_7_D, .res_7_E, .res_7_H, .res_7_L, .res_7_mHL, .res_7_A]
/-- R179, second bytes 0xC0 to 0xCF. -/
def cbRowC0 : List Instr :=
  [.set_0_B, .set_0_C, .set_0_D, .set_0_E, .set_0_H, .set_0_L, .set_0_mHL, .set_0_A, .set_1_B, .set_1_C,
   .set_1_D, .set_1_E, .set_1_H, .set_1_L, .set_1_mHL, .set_1_A]
/-- R179, second bytes 0xD0 to 0xDF. -/
def cbRowD0 : List Instr :=
  [.set_2_B, .set_2_C, .set_2_D, .set_2_E, .set_2_H, .set_2_L, .set_2_mHL, .set_2_A, .set_3_B, .set_3_C,
   .set_3_D, .set_3_E, .set_3_H, .set_3_L, .set_3_mHL, .set_3_A]
/-- R179, second bytes 0xE0 to 0xEF. -/
def cbRowE0 : List Instr :=
  [.set_4_B, .set_4_C, .set_4_D, .set_4_E, .set_4_H, .set_4_L, .set_4_mHL, .set_4_A, .set_5_B, .set_5_C,
   .set_5_D, .set_5_E, .set_5_H, .set_5_L, .set_5_mHL, .set_5_A]
/-- R179, second bytes 0xF0 to 0xFF. -/
def cbRowF0 : List Instr :=
  [.set_6_B, .set_6_C, .set_6_D, .set_6_E, .set_6_H, .set_6_L, .set_6_mHL, .set_6_A, .set_7_B, .set_7_C,
   .set_7_D, .set_7_E, .set_7_H, .set_7_L, .set_7_mHL, .set_7_A]

/-- The SM83 second table, sixteen second bytes a row. -/
def cbTable : List (List Instr) :=
  [cbRow00, cbRow10, cbRow20, cbRow30, cbRow40, cbRow50, cbRow60, cbRow70, cbRow80, cbRow90,
   cbRowA0, cbRowB0, cbRowC0, cbRowD0, cbRowE0, cbRowF0]

/-- The entry of the second table that a byte after 0xCB selects. -/
def decodeCb (cbop : Byte) : Instr :=
  (cbTable.getD (cbop.toNat / 16) []).getD (cbop.toNat % 16) (.prefixCB cbop)

/-- The entry 0xCB of the base table: the second byte selects the instruction from the second table,
and the whole is 2 bytes (R163, R164, R448). -/
def OpRow.cbPrefix : OpRow := ⟨2, fun b1 _ => decodeCb b1⟩

/-! The SM83 base table (R178). -/

/-- R178, row 0x00 to 0x0F. -/
def sm83Row00 : List OpRow :=
  [g1 .nop_sm83, g3 .ld_BC_d16, g1 .ld_mBC_A, g1 .inc_BC, g1 .inc_B, g1 .dec_B, g2 .ld_B_d8, g1 .rlca,
   g3 .ld_ma16_SP, g1 .add_HL_BC, g1 .ld_A_mBC, g1 .dec_BC, g1 .inc_C, g1 .dec_C, g2 .ld_C_d8, g1 .rrca]
/-- R178, row 0x10 to 0x1F. -/
def sm83Row10 : List OpRow :=
  [g2 .stop, g3 .ld_DE_d16, g1 .ld_mDE_A, g1 .inc_DE, g1 .inc_D, g1 .dec_D, g2 .ld_D_d8, g1 .rla,
   g2 .jr_r8, g1 .add_HL_DE, g1 .ld_A_mDE, g1 .dec_DE, g1 .inc_E, g1 .dec_E, g2 .ld_E_d8, g1 .rra]
/-- R178, row 0x20 to 0x2F. -/
def sm83Row20 : List OpRow :=
  [g2 .jr_NZ_r8, g3 .ld_HL_d16, g1 .ld_mHLinc_A, g1 .inc_HL, g1 .inc_H, g1 .dec_H, g2 .ld_H_d8, g1 .daa,
   g2 .jr_Z_r8, g1 .add_HL_HL, g1 .ld_A_mHLinc, g1 .dec_HL, g1 .inc_L, g1 .dec_L, g2 .ld_L_d8, g1 .cpl]
/-- R178, row 0x30 to 0x3F. -/
def sm83Row30 : List OpRow :=
  [g2 .jr_NC_r8, g3 .ld_SP_d16, g1 .ld_mHLdec_A, g1 .inc_SP, g1 .inc_mHL, g1 .dec_mHL, g2 .ld_mHL_d8,
   g1 .scf, g2 .jr_C_r8, g1 .add_HL_SP, g1 .ld_A_mHLdec, g1 .dec_SP, g1 .inc_A, g1 .dec_A, g2 .ld_A_d8,
   g1 .ccf]
/-- R178, row 0x40 to 0x4F. -/
def sm83Row40 : List OpRow :=
  [g1 .ld_B_B, g1 .ld_B_C, g1 .ld_B_D, g1 .ld_B_E, g1 .ld_B_H, g1 .ld_B_L, g1 .ld_B_mHL, g1 .ld_B_A,
   g1 .ld_C_B, g1 .ld_C_C, g1 .ld_C_D, g1 .ld_C_E, g1 .ld_C_H, g1 .ld_C_L, g1 .ld_C_mHL, g1 .ld_C_A]
/-- R178, row 0x50 to 0x5F. -/
def sm83Row50 : List OpRow :=
  [g1 .ld_D_B, g1 .ld_D_C, g1 .ld_D_D, g1 .ld_D_E, g1 .ld_D_H, g1 .ld_D_L, g1 .ld_D_mHL, g1 .ld_D_A,
   g1 .ld_E_B, g1 .ld_E_C, g1 .ld_E_D, g1 .ld_E_E, g1 .ld_E_H, g1 .ld_E_L, g1 .ld_E_mHL, g1 .ld_E_A]
/-- R178, row 0x60 to 0x6F. -/
def sm83Row60 : List OpRow :=
  [g1 .ld_H_B, g1 .ld_H_C, g1 .ld_H_D, g1 .ld_H_E, g1 .ld_H_H, g1 .ld_H_L, g1 .ld_H_mHL, g1 .ld_H_A,
   g1 .ld_L_B, g1 .ld_L_C, g1 .ld_L_D, g1 .ld_L_E, g1 .ld_L_H, g1 .ld_L_L, g1 .ld_L_mHL, g1 .ld_L_A]
/-- R178, row 0x70 to 0x7F. -/
def sm83Row70 : List OpRow :=
  [g1 .ld_mHL_B, g1 .ld_mHL_C, g1 .ld_mHL_D, g1 .ld_mHL_E, g1 .ld_mHL_H, g1 .ld_mHL_L, g1 .halt,
   g1 .ld_mHL_A, g1 .ld_A_B, g1 .ld_A_C, g1 .ld_A_D, g1 .ld_A_E, g1 .ld_A_H, g1 .ld_A_L, g1 .ld_A_mHL,
   g1 .ld_A_A]
/-- R178, row 0x80 to 0x8F. -/
def sm83Row80 : List OpRow :=
  [g1 .add_A_B, g1 .add_A_C, g1 .add_A_D, g1 .add_A_E, g1 .add_A_H, g1 .add_A_L, g1 .add_A_mHL,
   g1 .add_A_A, g1 .adc_A_B, g1 .adc_A_C, g1 .adc_A_D, g1 .adc_A_E, g1 .adc_A_H, g1 .adc_A_L,
   g1 .adc_A_mHL, g1 .adc_A_A]
/-- R178, row 0x90 to 0x9F. -/
def sm83Row90 : List OpRow :=
  [g1 .sub_B, g1 .sub_C, g1 .sub_D, g1 .sub_E, g1 .sub_H, g1 .sub_L, g1 .sub_mHL, g1 .sub_A, g1 .sbc_A_B,
   g1 .sbc_A_C, g1 .sbc_A_D, g1 .sbc_A_E, g1 .sbc_A_H, g1 .sbc_A_L, g1 .sbc_A_mHL, g1 .sbc_A_A]
/-- R178, row 0xA0 to 0xAF. -/
def sm83RowA0 : List OpRow :=
  [g1 .and_B, g1 .and_C, g1 .and_D, g1 .and_E, g1 .and_H, g1 .and_L, g1 .and_mHL, g1 .and_A, g1 .xor_B,
   g1 .xor_C, g1 .xor_D, g1 .xor_E, g1 .xor_H, g1 .xor_L, g1 .xor_mHL, g1 .xor_A]
/-- R178, row 0xB0 to 0xBF. -/
def sm83RowB0 : List OpRow :=
  [g1 .or_B, g1 .or_C, g1 .or_D, g1 .or_E, g1 .or_H, g1 .or_L, g1 .or_mHL, g1 .or_A, g1 .cp_B, g1 .cp_C,
   g1 .cp_D, g1 .cp_E, g1 .cp_H, g1 .cp_L, g1 .cp_mHL, g1 .cp_A]
/-- R178, row 0xC0 to 0xCF. -/
def sm83RowC0 : List OpRow :=
  [g1 .ret_NZ, g1 .pop_BC, g3 .jp_NZ_a16, g3 .jp_a16, g3 .call_NZ_a16, g1 .push_BC, g2 .add_A_d8,
   g1 .rst_00H, g1 .ret_Z, g1 .ret, g3 .jp_Z_a16, cbPrefix, g3 .call_Z_a16, g3 .call_a16, g2 .adc_A_d8,
   g1 .rst_08H]
/-- R178, row 0xD0 to 0xDF. -/
def sm83RowD0 : List OpRow :=
  [g1 .ret_NC, g1 .pop_DE, g3 .jp_NC_a16, g1 .illegal_D3, g3 .call_NC_a16, g1 .push_DE, g2 .sub_d8,
   g1 .rst_10H, g1 .ret_C, g1 .reti, g3 .jp_C_a16, g1 .illegal_DB, g3 .call_C_a16, g1 .illegal_DD,
   g2 .sbc_A_d8, g1 .rst_18H]
/-- R178, row 0xE0 to 0xEF. -/
def sm83RowE0 : List OpRow :=
  [g2 .ldh_ma8_A, g1 .pop_HL, g1 .ld_mC_A, g1 .illegal_E3, g1 .illegal_E4, g1 .push_HL, g2 .and_d8,
   g1 .rst_20H, g2 .add_SP_r8, g1 .jp_HL, g3 .ld_ma16_A, g1 .illegal_EB, g1 .illegal_EC, g1 .illegal_ED,
   g2 .xor_d8, g1 .rst_28H]
/-- R178, row 0xF0 to 0xFF. -/
def sm83RowF0 : List OpRow :=
  [g2 .ldh_A_ma8, g1 .pop_AF, g1 .ld_A_mC, g1 .di, g1 .illegal_F4, g1 .push_AF, g2 .or_d8, g1 .rst_30H,
   g2 .ld_HL_SPr8, g1 .ld_SP_HL, g3 .ld_A_ma16, g1 .ei, g1 .illegal_FC, g1 .illegal_FD, g2 .cp_d8,
   g1 .rst_38H]

/-- The SM83 base table, row by row. -/
def sm83Table : List (List OpRow) :=
  [sm83Row00, sm83Row10, sm83Row20, sm83Row30, sm83Row40, sm83Row50, sm83Row60, sm83Row70,
   sm83Row80, sm83Row90, sm83RowA0, sm83RowB0, sm83RowC0, sm83RowD0, sm83RowE0, sm83RowF0]

/-- The SM83 entry of an opcode byte. -/
def sm83Row (op : Byte) : OpRow :=
  (sm83Table.getD (op.toNat / 16) []).getD (op.toNat % 16) (g1 .nop_sm83)

/-- The table entry of an opcode byte on a stack's core. -/
def opRow : StackId → Byte → OpRow
  | .nStack, op => m6502Row op
  | .gStack, op => sm83Row op

/-- The M6502 instruction of an opcode byte and the bytes after it. -/
def decodeM6502 (op b1 b2 : Byte) : Instr := (m6502Row op).instr b1 b2

/-- The SM83 instruction of an opcode byte and the bytes after it. -/
def decodeSm83 (op b1 b2 : Byte) : Instr := (sm83Row op).instr b1 b2

/-- Why bytes do not decode. Every opcode byte has an entry (R8), so only missing bytes are refused. -/
inductive DecodeError where
  /-- There is no byte at all. -/
  | noBytes
  /-- The opcode's length is `len` and only `given` bytes are there. -/
  | truncated (len given : Nat)
  deriving DecidableEq, Repr

/-- The decoder on a list of bytes: the instruction the first bytes hold, and the rest. -/
def decode (st : StackId) : List Byte → Except DecodeError (Instr × List Byte)
  | [] => .error .noBytes
  | op :: rest =>
    if rest.length + 1 < (opRow st op).len then
      .error (.truncated (opRow st op).len (rest.length + 1))
    else
      .ok ((opRow st op).instr (rest.getD 0 0) (rest.getD 1 0), rest.drop ((opRow st op).len - 1))

/-! The fields of SM83 opcodes (R161, R164 to R167). -/

/-- The 3-bit code of `r8` (R165). -/
def R8.field : R8 → BitVec 3
  | .b => 0 | .c => 1 | .d => 2 | .e => 3 | .h => 4 | .l => 5 | .mHL => 6 | .a => 7
/-- `r8[i]` (R165). -/
def R8.ofField (i : BitVec 3) : R8 :=
  [R8.b, .c, .d, .e, .h, .l, .mHL, .a].getD i.toNat .a
/-- The 2-bit code of `r16` (R166). -/
def R16.field : R16 → BitVec 2
  | .bc => 0 | .de => 1 | .hl => 2 | .sp => 3
/-- The 2-bit code of `r16stk` (R167). -/
def R16Stk.field : R16Stk → BitVec 2
  | .bc => 0 | .de => 1 | .hl => 2 | .af => 3
/-- The 2-bit code of `r16mem` (R166). -/
def R16Mem.field : R16Mem → BitVec 2
  | .bc => 0 | .de => 1 | .hlInc => 2 | .hlDec => 3
/-- The 2-bit code of `cc` (R167). -/
def Cond.field : Cond → BitVec 2
  | .nz => 0 | .z => 1 | .nc => 2 | .c => 3
/-- The 3-bit code of `alu` (R161). -/
def AluOp.field : AluOp → BitVec 3
  | .add => 0 | .adc => 1 | .sub => 2 | .sbc => 3 | .and => 4 | .xor => 5 | .or => 6 | .cp => 7
/-- The 3-bit code of `rot` (R164). -/
def RotOp.field : RotOp → BitVec 3
  | .rlc => 0 | .rrc => 1 | .rl => 2 | .rr => 3 | .sla => 4 | .sra => 5 | .swap => 6 | .srl => 7
/-- `rot[i]` (R164). -/
def RotOp.ofField (i : BitVec 3) : RotOp :=
  [RotOp.rlc, .rrc, .rl, .rr, .sla, .sra, .swap, .srl].getD i.toNat .srl

/-! The encoder. -/

/-- The operand bytes of an M6502 operand, in address order (R142). -/
def Operand.bytes : Operand → List Byte
  | .imm d | .zp d | .zpx d | .zpy d | .izx d | .izy d => [d]
  | .abs a | .abx a | .aby a => wordBytes a

/-- The length in bytes of an instruction with this operand (R142). -/
def Operand.length : Operand → Nat
  | .imm _ | .zp _ | .zpx _ | .zpy _ | .izx _ | .izy _ => 2
  | .abs _ | .abx _ | .aby _ => 3

/-- The words of an M6502 form: its opcode in the operand's mode, then the operand bytes. A mode the
mnemonic does not have gives no words. -/
def encodeMode (ops : List (Mode × Byte)) (o : Operand) : List Byte :=
  match ops.lookup o.mode with
  | some op => op :: o.bytes
  | none => []

/-- The opcodes of LDA by mode (R203). -/
def ldaOps : List (Mode × Byte) :=
  [(.imm, 0xA9), (.zp, 0xA5), (.zpx, 0xB5), (.abs, 0xAD), (.abx, 0xBD), (.aby, 0xB9), (.izx, 0xA1), (.izy, 0xB1)]
/-- The opcodes of LDX by mode (R204). -/
def ldxOps : List (Mode × Byte) :=
  [(.imm, 0xA2), (.zp, 0xA6), (.zpy, 0xB6), (.abs, 0xAE), (.aby, 0xBE)]
/-- The opcodes of LDY by mode (R205). -/
def ldyOps : List (Mode × Byte) :=
  [(.imm, 0xA0), (.zp, 0xA4), (.zpx, 0xB4), (.abs, 0xAC), (.abx, 0xBC)]
/-- The opcodes of STA by mode (R206). -/
def staOps : List (Mode × Byte) :=
  [(.zp, 0x85), (.zpx, 0x95), (.abs, 0x8D), (.abx, 0x9D), (.aby, 0x99), (.izx, 0x81), (.izy, 0x91)]
/-- The opcodes of STX by mode (R207). -/
def stxOps : List (Mode × Byte) :=
  [(.zp, 0x86), (.zpy, 0x96), (.abs, 0x8E)]
/-- The opcodes of STY by mode (R208). -/
def styOps : List (Mode × Byte) :=
  [(.zp, 0x84), (.zpx, 0x94), (.abs, 0x8C)]
/-- The opcodes of ADC by mode (R233). -/
def adcOps : List (Mode × Byte) :=
  [(.imm, 0x69), (.zp, 0x65), (.zpx, 0x75), (.abs, 0x6D), (.abx, 0x7D), (.aby, 0x79), (.izx, 0x61), (.izy, 0x71)]
/-- The opcodes of SBC by mode (R234). -/
def sbcOps : List (Mode × Byte) :=
  [(.imm, 0xE9), (.zp, 0xE5), (.zpx, 0xF5), (.abs, 0xED), (.abx, 0xFD), (.aby, 0xF9), (.izx, 0xE1), (.izy, 0xF1)]
/-- The opcodes of AND by mode (R235). -/
def andOps : List (Mode × Byte) :=
  [(.imm, 0x29), (.zp, 0x25), (.zpx, 0x35), (.abs, 0x2D), (.abx, 0x3D), (.aby, 0x39), (.izx, 0x21), (.izy, 0x31)]
/-- The opcodes of ORA by mode (R236). -/
def oraOps : List (Mode × Byte) :=
  [(.imm, 0x09), (.zp, 0x05), (.zpx, 0x15), (.abs, 0x0D), (.abx, 0x1D), (.aby, 0x19), (.izx, 0x01), (.izy, 0x11)]
/-- The opcodes of EOR by mode (R237). -/
def eorOps : List (Mode × Byte) :=
  [(.imm, 0x49), (.zp, 0x45), (.zpx, 0x55), (.abs, 0x4D), (.abx, 0x5D), (.aby, 0x59), (.izx, 0x41), (.izy, 0x51)]
/-- The opcodes of CMP by mode (R238). -/
def cmpOps : List (Mode × Byte) :=
  [(.imm, 0xC9), (.zp, 0xC5), (.zpx, 0xD5), (.abs, 0xCD), (.abx, 0xDD), (.aby, 0xD9), (.izx, 0xC1), (.izy, 0xD1)]
/-- The opcodes of CPX by mode (R239). -/
def cpxOps : List (Mode × Byte) :=
  [(.imm, 0xE0), (.zp, 0xE4), (.abs, 0xEC)]
/-- The opcodes of CPY by mode (R240). -/
def cpyOps : List (Mode × Byte) :=
  [(.imm, 0xC0), (.zp, 0xC4), (.abs, 0xCC)]
/-- The opcodes of BIT by mode (R241). -/
def bitOps : List (Mode × Byte) :=
  [(.zp, 0x24), (.abs, 0x2C)]
/-- The opcodes of INC by mode (R242). -/
def incOps : List (Mode × Byte) :=
  [(.zp, 0xE6), (.zpx, 0xF6), (.abs, 0xEE), (.abx, 0xFE)]
/-- The opcodes of DEC by mode (R243). -/
def decOps : List (Mode × Byte) :=
  [(.zp, 0xC6), (.zpx, 0xD6), (.abs, 0xCE), (.abx, 0xDE)]
/-- The opcodes of ASL by mode (R248). -/
def aslOps : List (Mode × Byte) :=
  [(.zp, 0x06), (.zpx, 0x16), (.abs, 0x0E), (.abx, 0x1E)]
/-- The opcodes of LSR by mode (R249). -/
def lsrOps : List (Mode × Byte) :=
  [(.zp, 0x46), (.zpx, 0x56), (.abs, 0x4E), (.abx, 0x5E)]
/-- The opcodes of ROL by mode (R250). -/
def rolOps : List (Mode × Byte) :=
  [(.zp, 0x26), (.zpx, 0x36), (.abs, 0x2E), (.abx, 0x3E)]
/-- The opcodes of ROR by mode (R251). -/
def rorOps : List (Mode × Byte) :=
  [(.zp, 0x66), (.zpx, 0x76), (.abs, 0x6E), (.abx, 0x7E)]

/-- The bytes of an instruction in address order; a term that is not well formed has none. -/
def encode : Instr → List Byte
  | .lda o => encodeMode ldaOps o
  | .ldx o => encodeMode ldxOps o
  | .ldy o => encodeMode ldyOps o
  | .sta o => encodeMode staOps o
  | .stx o => encodeMode stxOps o
  | .sty o => encodeMode styOps o
  | .tax => [0xAA]
  | .tay => [0xA8]
  | .txa => [0x8A]
  | .tya => [0x98]
  | .tsx => [0xBA]
  | .txs => [0x9A]
  | .pha => [0x48]
  | .php => [0x08]
  | .pla => [0x68]
  | .plp => [0x28]
  | .adc o => encodeMode adcOps o
  | .sbc o => encodeMode sbcOps o
  | .and o => encodeMode andOps o
  | .ora o => encodeMode oraOps o
  | .eor o => encodeMode eorOps o
  | .cmp o => encodeMode cmpOps o
  | .cpx o => encodeMode cpxOps o
  | .cpy o => encodeMode cpyOps o
  | .bit o => encodeMode bitOps o
  | .inc o => encodeMode incOps o
  | .dec o => encodeMode decOps o
  | .inx => [0xE8]
  | .iny => [0xC8]
  | .dex => [0xCA]
  | .dey => [0x88]
  | .asl .acc => [0x0A]
  | .asl (.mem o) => encodeMode aslOps o
  | .lsr .acc => [0x4A]
  | .lsr (.mem o) => encodeMode lsrOps o
  | .rol .acc => [0x2A]
  | .rol (.mem o) => encodeMode rolOps o
  | .ror .acc => [0x6A]
  | .ror (.mem o) => encodeMode rorOps o
  | .bcc d => [0x90, d]
  | .bcs d => [0xB0, d]
  | .beq d => [0xF0, d]
  | .bne d => [0xD0, d]
  | .bmi d => [0x30, d]
  | .bpl d => [0x10, d]
  | .bvc d => [0x50, d]
  | .bvs d => [0x70, d]
  | .jmp (.abs a) => 0x4C :: wordBytes a
  | .jmp (.ind a) => 0x6C :: wordBytes a
  | .jsr a => 0x20 :: wordBytes a
  | .rts => [0x60]
  | .rti => [0x40]
  | .brk => [0x00]
  | .clc => [0x18]
  | .sec => [0x38]
  | .cli => [0x58]
  | .sei => [0x78]
  | .cld => [0xD8]
  | .sed => [0xF8]
  | .clv => [0xB8]
  | .nop_6502 => [0xEA]
  | .ill op => [op]
  | .nop_sm83 => [0x00]
  | .ld_BC_d16 w => 0x01 :: wordBytes w
  | .ld_mBC_A => [0x02]
  | .inc_BC => [0x03]
  | .inc_B => [0x04]
  | .dec_B => [0x05]
  | .ld_B_d8 d => [0x06, d]
  | .rlca => [0x07]
  | .ld_ma16_SP w => 0x08 :: wordBytes w
  | .add_HL_BC => [0x09]
  | .ld_A_mBC => [0x0A]
  | .dec_BC => [0x0B]
  | .inc_C => [0x0C]
  | .dec_C => [0x0D]
  | .ld_C_d8 d => [0x0E, d]
  | .rrca => [0x0F]
  | .stop d => [0x10, d]
  | .ld_DE_d16 w => 0x11 :: wordBytes w
  | .ld_mDE_A => [0x12]
  | .inc_DE => [0x13]
  | .inc_D => [0x14]
  | .dec_D => [0x15]
  | .ld_D_d8 d => [0x16, d]
  | .rla => [0x17]
  | .jr_r8 d => [0x18, d]
  | .add_HL_DE => [0x19]
  | .ld_A_mDE => [0x1A]
  | .dec_DE => [0x1B]
  | .inc_E => [0x1C]
  | .dec_E => [0x1D]
  | .ld_E_d8 d => [0x1E, d]
  | .rra => [0x1F]
  | .jr_NZ_r8 d => [0x20, d]
  | .ld_HL_d16 w => 0x21 :: wordBytes w
  | .ld_mHLinc_A => [0x22]
  | .inc_HL => [0x23]
  | .inc_H => [0x24]
  | .dec_H => [0x25]
  | .ld_H_d8 d => [0x26, d]
  | .daa => [0x27]
  | .jr_Z_r8 d => [0x28, d]
  | .add_HL_HL => [0x29]
  | .ld_A_mHLinc => [0x2A]
  | .dec_HL => [0x2B]
  | .inc_L => [0x2C]
  | .dec_L => [0x2D]
  | .ld_L_d8 d => [0x2E, d]
  | .cpl => [0x2F]
  | .jr_NC_r8 d => [0x30, d]
  | .ld_SP_d16 w => 0x31 :: wordBytes w
  | .ld_mHLdec_A => [0x32]
  | .inc_SP => [0x33]
  | .inc_mHL => [0x34]
  | .dec_mHL => [0x35]
  | .ld_mHL_d8 d => [0x36, d]
  | .scf => [0x37]
  | .jr_C_r8 d => [0x38, d]
  | .add_HL_SP => [0x39]
  | .ld_A_mHLdec => [0x3A]
  | .dec_SP => [0x3B]
  | .inc_A => [0x3C]
  | .dec_A => [0x3D]
  | .ld_A_d8 d => [0x3E, d]
  | .ccf => [0x3F]
  | .ld_B_B => [0x40]
  | .ld_B_C => [0x41]
  | .ld_B_D => [0x42]
  | .ld_B_E => [0x43]
  | .ld_B_H => [0x44]
  | .ld_B_L => [0x45]
  | .ld_B_mHL => [0x46]
  | .ld_B_A => [0x47]
  | .ld_C_B => [0x48]
  | .ld_C_C => [0x49]
  | .ld_C_D => [0x4A]
  | .ld_C_E => [0x4B]
  | .ld_C_H => [0x4C]
  | .ld_C_L => [0x4D]
  | .ld_C_mHL => [0x4E]
  | .ld_C_A => [0x4F]
  | .ld_D_B => [0x50]
  | .ld_D_C => [0x51]
  | .ld_D_D => [0x52]
  | .ld_D_E => [0x53]
  | .ld_D_H => [0x54]
  | .ld_D_L => [0x55]
  | .ld_D_mHL => [0x56]
  | .ld_D_A => [0x57]
  | .ld_E_B => [0x58]
  | .ld_E_C => [0x59]
  | .ld_E_D => [0x5A]
  | .ld_E_E => [0x5B]
  | .ld_E_H => [0x5C]
  | .ld_E_L => [0x5D]
  | .ld_E_mHL => [0x5E]
  | .ld_E_A => [0x5F]
  | .ld_H_B => [0x60]
  | .ld_H_C => [0x61]
  | .ld_H_D => [0x62]
  | .ld_H_E => [0x63]
  | .ld_H_H => [0x64]
  | .ld_H_L => [0x65]
  | .ld_H_mHL => [0x66]
  | .ld_H_A => [0x67]
  | .ld_L_B => [0x68]
  | .ld_L_C => [0x69]
  | .ld_L_D => [0x6A]
  | .ld_L_E => [0x6B]
  | .ld_L_H => [0x6C]
  | .ld_L_L => [0x6D]
  | .ld_L_mHL => [0x6E]
  | .ld_L_A => [0x6F]
  | .ld_mHL_B => [0x70]
  | .ld_mHL_C => [0x71]
  | .ld_mHL_D => [0x72]
  | .ld_mHL_E => [0x73]
  | .ld_mHL_H => [0x74]
  | .ld_mHL_L => [0x75]
  | .halt => [0x76]
  | .ld_mHL_A => [0x77]
  | .ld_A_B => [0x78]
  | .ld_A_C => [0x79]
  | .ld_A_D => [0x7A]
  | .ld_A_E => [0x7B]
  | .ld_A_H => [0x7C]
  | .ld_A_L => [0x7D]
  | .ld_A_mHL => [0x7E]
  | .ld_A_A => [0x7F]
  | .add_A_B => [0x80]
  | .add_A_C => [0x81]
  | .add_A_D => [0x82]
  | .add_A_E => [0x83]
  | .add_A_H => [0x84]
  | .add_A_L => [0x85]
  | .add_A_mHL => [0x86]
  | .add_A_A => [0x87]
  | .adc_A_B => [0x88]
  | .adc_A_C => [0x89]
  | .adc_A_D => [0x8A]
  | .adc_A_E => [0x8B]
  | .adc_A_H => [0x8C]
  | .adc_A_L => [0x8D]
  | .adc_A_mHL => [0x8E]
  | .adc_A_A => [0x8F]
  | .sub_B => [0x90]
  | .sub_C => [0x91]
  | .sub_D => [0x92]
  | .sub_E => [0x93]
  | .sub_H => [0x94]
  | .sub_L => [0x95]
  | .sub_mHL => [0x96]
  | .sub_A => [0x97]
  | .sbc_A_B => [0x98]
  | .sbc_A_C => [0x99]
  | .sbc_A_D => [0x9A]
  | .sbc_A_E => [0x9B]
  | .sbc_A_H => [0x9C]
  | .sbc_A_L => [0x9D]
  | .sbc_A_mHL => [0x9E]
  | .sbc_A_A => [0x9F]
  | .and_B => [0xA0]
  | .and_C => [0xA1]
  | .and_D => [0xA2]
  | .and_E => [0xA3]
  | .and_H => [0xA4]
  | .and_L => [0xA5]
  | .and_mHL => [0xA6]
  | .and_A => [0xA7]
  | .xor_B => [0xA8]
  | .xor_C => [0xA9]
  | .xor_D => [0xAA]
  | .xor_E => [0xAB]
  | .xor_H => [0xAC]
  | .xor_L => [0xAD]
  | .xor_mHL => [0xAE]
  | .xor_A => [0xAF]
  | .or_B => [0xB0]
  | .or_C => [0xB1]
  | .or_D => [0xB2]
  | .or_E => [0xB3]
  | .or_H => [0xB4]
  | .or_L => [0xB5]
  | .or_mHL => [0xB6]
  | .or_A => [0xB7]
  | .cp_B => [0xB8]
  | .cp_C => [0xB9]
  | .cp_D => [0xBA]
  | .cp_E => [0xBB]
  | .cp_H => [0xBC]
  | .cp_L => [0xBD]
  | .cp_mHL => [0xBE]
  | .cp_A => [0xBF]
  | .ret_NZ => [0xC0]
  | .pop_BC => [0xC1]
  | .jp_NZ_a16 w => 0xC2 :: wordBytes w
  | .jp_a16 w => 0xC3 :: wordBytes w
  | .call_NZ_a16 w => 0xC4 :: wordBytes w
  | .push_BC => [0xC5]
  | .add_A_d8 d => [0xC6, d]
  | .rst_00H => [0xC7]
  | .ret_Z => [0xC8]
  | .ret => [0xC9]
  | .jp_Z_a16 w => 0xCA :: wordBytes w
  | .prefixCB _ => []
  | .call_Z_a16 w => 0xCC :: wordBytes w
  | .call_a16 w => 0xCD :: wordBytes w
  | .adc_A_d8 d => [0xCE, d]
  | .rst_08H => [0xCF]
  | .ret_NC => [0xD0]
  | .pop_DE => [0xD1]
  | .jp_NC_a16 w => 0xD2 :: wordBytes w
  | .illegal_D3 => [0xD3]
  | .call_NC_a16 w => 0xD4 :: wordBytes w
  | .push_DE => [0xD5]
  | .sub_d8 d => [0xD6, d]
  | .rst_10H => [0xD7]
  | .ret_C => [0xD8]
  | .reti => [0xD9]
  | .jp_C_a16 w => 0xDA :: wordBytes w
  | .illegal_DB => [0xDB]
  | .call_C_a16 w => 0xDC :: wordBytes w
  | .illegal_DD => [0xDD]
  | .sbc_A_d8 d => [0xDE, d]
  | .rst_18H => [0xDF]
  | .ldh_ma8_A d => [0xE0, d]
  | .pop_HL => [0xE1]
  | .ld_mC_A => [0xE2]
  | .illegal_E3 => [0xE3]
  | .illegal_E4 => [0xE4]
  | .push_HL => [0xE5]
  | .and_d8 d => [0xE6, d]
  | .rst_20H => [0xE7]
  | .add_SP_r8 d => [0xE8, d]
  | .jp_HL => [0xE9]
  | .ld_ma16_A w => 0xEA :: wordBytes w
  | .illegal_EB => [0xEB]
  | .illegal_EC => [0xEC]
  | .illegal_ED => [0xED]
  | .xor_d8 d => [0xEE, d]
  | .rst_28H => [0xEF]
  | .ldh_A_ma8 d => [0xF0, d]
  | .pop_AF => [0xF1]
  | .ld_A_mC => [0xF2]
  | .di => [0xF3]
  | .illegal_F4 => [0xF4]
  | .push_AF => [0xF5]
  | .or_d8 d => [0xF6, d]
  | .rst_30H => [0xF7]
  | .ld_HL_SPr8 d => [0xF8, d]
  | .ld_SP_HL => [0xF9]
  | .ld_A_ma16 w => 0xFA :: wordBytes w
  | .ei => [0xFB]
  | .illegal_FC => [0xFC]
  | .illegal_FD => [0xFD]
  | .cp_d8 d => [0xFE, d]
  | .rst_38H => [0xFF]
  | .rlc_B => [0xCB, 0x00]
  | .rlc_C => [0xCB, 0x01]
  | .rlc_D => [0xCB, 0x02]
  | .rlc_E => [0xCB, 0x03]
  | .rlc_H => [0xCB, 0x04]
  | .rlc_L => [0xCB, 0x05]
  | .rlc_mHL => [0xCB, 0x06]
  | .rlc_A => [0xCB, 0x07]
  | .rrc_B => [0xCB, 0x08]
  | .rrc_C => [0xCB, 0x09]
  | .rrc_D => [0xCB, 0x0A]
  | .rrc_E => [0xCB, 0x0B]
  | .rrc_H => [0xCB, 0x0C]
  | .rrc_L => [0xCB, 0x0D]
  | .rrc_mHL => [0xCB, 0x0E]
  | .rrc_A => [0xCB, 0x0F]
  | .rl_B => [0xCB, 0x10]
  | .rl_C => [0xCB, 0x11]
  | .rl_D => [0xCB, 0x12]
  | .rl_E => [0xCB, 0x13]
  | .rl_H => [0xCB, 0x14]
  | .rl_L => [0xCB, 0x15]
  | .rl_mHL => [0xCB, 0x16]
  | .rl_A => [0xCB, 0x17]
  | .rr_B => [0xCB, 0x18]
  | .rr_C => [0xCB, 0x19]
  | .rr_D => [0xCB, 0x1A]
  | .rr_E => [0xCB, 0x1B]
  | .rr_H => [0xCB, 0x1C]
  | .rr_L => [0xCB, 0x1D]
  | .rr_mHL => [0xCB, 0x1E]
  | .rr_A => [0xCB, 0x1F]
  | .sla_B => [0xCB, 0x20]
  | .sla_C => [0xCB, 0x21]
  | .sla_D => [0xCB, 0x22]
  | .sla_E => [0xCB, 0x23]
  | .sla_H => [0xCB, 0x24]
  | .sla_L => [0xCB, 0x25]
  | .sla_mHL => [0xCB, 0x26]
  | .sla_A => [0xCB, 0x27]
  | .sra_B => [0xCB, 0x28]
  | .sra_C => [0xCB, 0x29]
  | .sra_D => [0xCB, 0x2A]
  | .sra_E => [0xCB, 0x2B]
  | .sra_H => [0xCB, 0x2C]
  | .sra_L => [0xCB, 0x2D]
  | .sra_mHL => [0xCB, 0x2E]
  | .sra_A => [0xCB, 0x2F]
  | .swap_B => [0xCB, 0x30]
  | .swap_C => [0xCB, 0x31]
  | .swap_D => [0xCB, 0x32]
  | .swap_E => [0xCB, 0x33]
  | .swap_H => [0xCB, 0x34]
  | .swap_L => [0xCB, 0x35]
  | .swap_mHL => [0xCB, 0x36]
  | .swap_A => [0xCB, 0x37]
  | .srl_B => [0xCB, 0x38]
  | .srl_C => [0xCB, 0x39]
  | .srl_D => [0xCB, 0x3A]
  | .srl_E => [0xCB, 0x3B]
  | .srl_H => [0xCB, 0x3C]
  | .srl_L => [0xCB, 0x3D]
  | .srl_mHL => [0xCB, 0x3E]
  | .srl_A => [0xCB, 0x3F]
  | .bit_0_B => [0xCB, 0x40]
  | .bit_0_C => [0xCB, 0x41]
  | .bit_0_D => [0xCB, 0x42]
  | .bit_0_E => [0xCB, 0x43]
  | .bit_0_H => [0xCB, 0x44]
  | .bit_0_L => [0xCB, 0x45]
  | .bit_0_mHL => [0xCB, 0x46]
  | .bit_0_A => [0xCB, 0x47]
  | .bit_1_B => [0xCB, 0x48]
  | .bit_1_C => [0xCB, 0x49]
  | .bit_1_D => [0xCB, 0x4A]
  | .bit_1_E => [0xCB, 0x4B]
  | .bit_1_H => [0xCB, 0x4C]
  | .bit_1_L => [0xCB, 0x4D]
  | .bit_1_mHL => [0xCB, 0x4E]
  | .bit_1_A => [0xCB, 0x4F]
  | .bit_2_B => [0xCB, 0x50]
  | .bit_2_C => [0xCB, 0x51]
  | .bit_2_D => [0xCB, 0x52]
  | .bit_2_E => [0xCB, 0x53]
  | .bit_2_H => [0xCB, 0x54]
  | .bit_2_L => [0xCB, 0x55]
  | .bit_2_mHL => [0xCB, 0x56]
  | .bit_2_A => [0xCB, 0x57]
  | .bit_3_B => [0xCB, 0x58]
  | .bit_3_C => [0xCB, 0x59]
  | .bit_3_D => [0xCB, 0x5A]
  | .bit_3_E => [0xCB, 0x5B]
  | .bit_3_H => [0xCB, 0x5C]
  | .bit_3_L => [0xCB, 0x5D]
  | .bit_3_mHL => [0xCB, 0x5E]
  | .bit_3_A => [0xCB, 0x5F]
  | .bit_4_B => [0xCB, 0x60]
  | .bit_4_C => [0xCB, 0x61]
  | .bit_4_D => [0xCB, 0x62]
  | .bit_4_E => [0xCB, 0x63]
  | .bit_4_H => [0xCB, 0x64]
  | .bit_4_L => [0xCB, 0x65]
  | .bit_4_mHL => [0xCB, 0x66]
  | .bit_4_A => [0xCB, 0x67]
  | .bit_5_B => [0xCB, 0x68]
  | .bit_5_C => [0xCB, 0x69]
  | .bit_5_D => [0xCB, 0x6A]
  | .bit_5_E => [0xCB, 0x6B]
  | .bit_5_H => [0xCB, 0x6C]
  | .bit_5_L => [0xCB, 0x6D]
  | .bit_5_mHL => [0xCB, 0x6E]
  | .bit_5_A => [0xCB, 0x6F]
  | .bit_6_B => [0xCB, 0x70]
  | .bit_6_C => [0xCB, 0x71]
  | .bit_6_D => [0xCB, 0x72]
  | .bit_6_E => [0xCB, 0x73]
  | .bit_6_H => [0xCB, 0x74]
  | .bit_6_L => [0xCB, 0x75]
  | .bit_6_mHL => [0xCB, 0x76]
  | .bit_6_A => [0xCB, 0x77]
  | .bit_7_B => [0xCB, 0x78]
  | .bit_7_C => [0xCB, 0x79]
  | .bit_7_D => [0xCB, 0x7A]
  | .bit_7_E => [0xCB, 0x7B]
  | .bit_7_H => [0xCB, 0x7C]
  | .bit_7_L => [0xCB, 0x7D]
  | .bit_7_mHL => [0xCB, 0x7E]
  | .bit_7_A => [0xCB, 0x7F]
  | .res_0_B => [0xCB, 0x80]
  | .res_0_C => [0xCB, 0x81]
  | .res_0_D => [0xCB, 0x82]
  | .res_0_E => [0xCB, 0x83]
  | .res_0_H => [0xCB, 0x84]
  | .res_0_L => [0xCB, 0x85]
  | .res_0_mHL => [0xCB, 0x86]
  | .res_0_A => [0xCB, 0x87]
  | .res_1_B => [0xCB, 0x88]
  | .res_1_C => [0xCB, 0x89]
  | .res_1_D => [0xCB, 0x8A]
  | .res_1_E => [0xCB, 0x8B]
  | .res_1_H => [0xCB, 0x8C]
  | .res_1_L => [0xCB, 0x8D]
  | .res_1_mHL => [0xCB, 0x8E]
  | .res_1_A => [0xCB, 0x8F]
  | .res_2_B => [0xCB, 0x90]
  | .res_2_C => [0xCB, 0x91]
  | .res_2_D => [0xCB, 0x92]
  | .res_2_E => [0xCB, 0x93]
  | .res_2_H => [0xCB, 0x94]
  | .res_2_L => [0xCB, 0x95]
  | .res_2_mHL => [0xCB, 0x96]
  | .res_2_A => [0xCB, 0x97]
  | .res_3_B => [0xCB, 0x98]
  | .res_3_C => [0xCB, 0x99]
  | .res_3_D => [0xCB, 0x9A]
  | .res_3_E => [0xCB, 0x9B]
  | .res_3_H => [0xCB, 0x9C]
  | .res_3_L => [0xCB, 0x9D]
  | .res_3_mHL => [0xCB, 0x9E]
  | .res_3_A => [0xCB, 0x9F]
  | .res_4_B => [0xCB, 0xA0]
  | .res_4_C => [0xCB, 0xA1]
  | .res_4_D => [0xCB, 0xA2]
  | .res_4_E => [0xCB, 0xA3]
  | .res_4_H => [0xCB, 0xA4]
  | .res_4_L => [0xCB, 0xA5]
  | .res_4_mHL => [0xCB, 0xA6]
  | .res_4_A => [0xCB, 0xA7]
  | .res_5_B => [0xCB, 0xA8]
  | .res_5_C => [0xCB, 0xA9]
  | .res_5_D => [0xCB, 0xAA]
  | .res_5_E => [0xCB, 0xAB]
  | .res_5_H => [0xCB, 0xAC]
  | .res_5_L => [0xCB, 0xAD]
  | .res_5_mHL => [0xCB, 0xAE]
  | .res_5_A => [0xCB, 0xAF]
  | .res_6_B => [0xCB, 0xB0]
  | .res_6_C => [0xCB, 0xB1]
  | .res_6_D => [0xCB, 0xB2]
  | .res_6_E => [0xCB, 0xB3]
  | .res_6_H => [0xCB, 0xB4]
  | .res_6_L => [0xCB, 0xB5]
  | .res_6_mHL => [0xCB, 0xB6]
  | .res_6_A => [0xCB, 0xB7]
  | .res_7_B => [0xCB, 0xB8]
  | .res_7_C => [0xCB, 0xB9]
  | .res_7_D => [0xCB, 0xBA]
  | .res_7_E => [0xCB, 0xBB]
  | .res_7_H => [0xCB, 0xBC]
  | .res_7_L => [0xCB, 0xBD]
  | .res_7_mHL => [0xCB, 0xBE]
  | .res_7_A => [0xCB, 0xBF]
  | .set_0_B => [0xCB, 0xC0]
  | .set_0_C => [0xCB, 0xC1]
  | .set_0_D => [0xCB, 0xC2]
  | .set_0_E => [0xCB, 0xC3]
  | .set_0_H => [0xCB, 0xC4]
  | .set_0_L => [0xCB, 0xC5]
  | .set_0_mHL => [0xCB, 0xC6]
  | .set_0_A => [0xCB, 0xC7]
  | .set_1_B => [0xCB, 0xC8]
  | .set_1_C => [0xCB, 0xC9]
  | .set_1_D => [0xCB, 0xCA]
  | .set_1_E => [0xCB, 0xCB]
  | .set_1_H => [0xCB, 0xCC]
  | .set_1_L => [0xCB, 0xCD]
  | .set_1_mHL => [0xCB, 0xCE]
  | .set_1_A => [0xCB, 0xCF]
  | .set_2_B => [0xCB, 0xD0]
  | .set_2_C => [0xCB, 0xD1]
  | .set_2_D => [0xCB, 0xD2]
  | .set_2_E => [0xCB, 0xD3]
  | .set_2_H => [0xCB, 0xD4]
  | .set_2_L => [0xCB, 0xD5]
  | .set_2_mHL => [0xCB, 0xD6]
  | .set_2_A => [0xCB, 0xD7]
  | .set_3_B => [0xCB, 0xD8]
  | .set_3_C => [0xCB, 0xD9]
  | .set_3_D => [0xCB, 0xDA]
  | .set_3_E => [0xCB, 0xDB]
  | .set_3_H => [0xCB, 0xDC]
  | .set_3_L => [0xCB, 0xDD]
  | .set_3_mHL => [0xCB, 0xDE]
  | .set_3_A => [0xCB, 0xDF]
  | .set_4_B => [0xCB, 0xE0]
  | .set_4_C => [0xCB, 0xE1]
  | .set_4_D => [0xCB, 0xE2]
  | .set_4_E => [0xCB, 0xE3]
  | .set_4_H => [0xCB, 0xE4]
  | .set_4_L => [0xCB, 0xE5]
  | .set_4_mHL => [0xCB, 0xE6]
  | .set_4_A => [0xCB, 0xE7]
  | .set_5_B => [0xCB, 0xE8]
  | .set_5_C => [0xCB, 0xE9]
  | .set_5_D => [0xCB, 0xEA]
  | .set_5_E => [0xCB, 0xEB]
  | .set_5_H => [0xCB, 0xEC]
  | .set_5_L => [0xCB, 0xED]
  | .set_5_mHL => [0xCB, 0xEE]
  | .set_5_A => [0xCB, 0xEF]
  | .set_6_B => [0xCB, 0xF0]
  | .set_6_C => [0xCB, 0xF1]
  | .set_6_D => [0xCB, 0xF2]
  | .set_6_E => [0xCB, 0xF3]
  | .set_6_H => [0xCB, 0xF4]
  | .set_6_L => [0xCB, 0xF5]
  | .set_6_mHL => [0xCB, 0xF6]
  | .set_6_A => [0xCB, 0xF7]
  | .set_7_B => [0xCB, 0xF8]
  | .set_7_C => [0xCB, 0xF9]
  | .set_7_D => [0xCB, 0xFA]
  | .set_7_E => [0xCB, 0xFB]
  | .set_7_H => [0xCB, 0xFC]
  | .set_7_L => [0xCB, 0xFD]
  | .set_7_mHL => [0xCB, 0xFE]
  | .set_7_A => [0xCB, 0xFF]

/-! The host's view of the opcode table. -/

/-- The bytes, in address order, of a stack's instruction whose bits are `w` as the opcode table numbers them:
the first byte is the low one, but for a row of the SM83's second table, whose word the table writes as
`0xCB00 | second byte`, "the first byte in the high half" (R164, R175). Bits above `nbits` are zero. -/
def tableBytes (st : StackId) (nbits w : Nat) : List Byte :=
  if st = .gStack ∧ nbits = 16 ∧ w / 256 = 0xCB then
    [0xCB, BitVec.ofNat 8 w, 0]
  else
    [BitVec.ofNat 8 w, BitVec.ofNat 8 (w / 256), BitVec.ofNat 8 (w / 65536)]

/-- The instruction the decoder of the session's stack (`Config.stack`) reads from a table word. The two
cores' tables use the same 8-bit words, so the session's stack decides which table is meant. -/
def decodeTableWord (nbits w : Nat) : Option Instr :=
  match decode Config.stack (tableBytes Config.stack nbits w) with
  | .ok (i, _) => some i
  | .error _ => none

end Sys2Proof
end

