-- ==== Sys2Proof/Machine/State.lean ====
section
/-! DEFINITION. Everything the spec gives the two machines, as plain data (spec/10_state.md R20 to R62),
and the session right after reset (spec/70_reset_and_hazards.md R650, R651). INVENTORY.md lists every
piece with its rule and its reset value. -/

namespace Sys2Proof.Machine

/-- A memory: its bytes by offset, offsets strictly rising, none equal to what an unlisted offset reads
as (`Memory.wf`). An unlisted offset reads as 0x00: RAM is zero after reset (R29, R38; D19). -/
abbrev Memory := List Host.Cell

/-- A picture of 144 rows of 160 shades (R55): the rows by line number, in the same canonical form; a row
that is not listed is all shade 0, the reset value. -/
abbrev Picture := List (Nat × List Shade)

/-! The state of both stacks that R27 and R39 name. -/

/-- The kind of a fault with its `info` (R505, R506). -/
inductive FaultCause where
  /-- Code 1, `IllegalOpcode`, with the opcode byte. -/
  | illegalOpcode (op : Byte)
  /-- Code 2, `Consistency`, with `dma`. -/
  | consistencyDma
  deriving DecidableEq, Repr

/-- `fault_info`: the kind, the info and the `PC` of the faulting instruction (R505). -/
structure FaultRecord where
  cause : FaultCause
  pc : Word
  deriving DecidableEq, Repr

/-- The frame driver's `frame_carry` (R39) and the `count` of its loop (R126), kept between two `Step`s. -/
structure FrameDriver where
  carry : Nat
  count : Nat
  deriving DecidableEq, Repr

/-! The N-stack (R22 to R29). -/

/-- The six flags of `P` (R25). -/
structure M6502Flags where
  n : Bool
  v : Bool
  d : Bool
  i : Bool
  z : Bool
  c : Bool
  deriving DecidableEq, Repr

/-- The M6502 registers (R22 to R25), its interrupt inputs (R26) and its fault state (R27). -/
structure M6502 where
  a : Byte
  x : Byte
  y : Byte
  s : Byte
  pc : Word
  p : M6502Flags
  nmiPending : Bool
  irqLine : Bool
  faulted : Bool
  faultInfo : Option FaultRecord
  deriving DecidableEq, Repr

/-- The N-stack OAM DMA (R28): `dma_active`, `dma_page`, `dma_index`. -/
structure NDma where
  active : Bool
  page : Byte
  index : Nat
  deriving DecidableEq, Repr

/-- The N-stack joypads: `joy_strobe`, `joy_shift[0..1]` (R29) and the host's `buttons[0..1]` (R84). -/
structure NJoypad where
  strobe : Bool
  shift0 : Byte
  shift1 : Byte
  buttons0 : Byte
  buttons1 : Byte
  deriving DecidableEq, Repr

/-- The mappers of R10. -/
inductive NMapper where
  /-- Mapper 0 (R117). -/
  | nrom
  /-- Mapper 2 (R118). -/
  | uxrom
  /-- Mapper 3 (R119). -/
  | cnrom
  deriving DecidableEq, Repr

/-- The N-stack cartridge as its header gives it (R116): immutable after construction. -/
structure NCart where
  mapper : NMapper
  prgUnits : Nat
  chrUnits : Nat
  /-- `mirroring`: true is vertical. -/
  mirroring : Bool
  battery : Bool
  fourScreen : Bool
  prgRom : Memory
  deriving DecidableEq, Repr

/-- The N-stack. -/
structure NStack where
  cpu : M6502
  dma : NDma
  ram : Memory
  prgRam : Memory
  prgBank : Byte
  chrBank : Byte
  joy : NJoypad
  cart : NCart
  /-- The MODEL's own: what the external picture unit has seen, newest first (assumption log 1). -/
  ppuPort : List PortEvent
  frame : FrameDriver
  /-- The MODEL's own: the cycle count that the last `Step` returned (R14; assumption log 9). -/
  cycles : Nat
  deriving DecidableEq, Repr

/-! The G-stack (R30 to R56). -/

/-- The four stored bits of `F` (R33); bits 3 to 0 always read 0. -/
structure Sm83Flags where
  z : Bool
  n : Bool
  h : Bool
  c : Bool
  deriving DecidableEq, Repr

/-- The SM83 registers (R30 to R33), `IME` (R34), `ime_delay` (R35), `halted`, `stopped` (R36) and the
fault state (R27). The pairs are aliases, not fields (R30). -/
structure Sm83 where
  a : Byte
  f : Sm83Flags
  b : Byte
  c : Byte
  d : Byte
  e : Byte
  h : Byte
  l : Byte
  sp : Word
  pc : Word
  ime : Bool
  imeDelay : Nat
  halted : Bool
  stopped : Bool
  faulted : Bool
  faultInfo : Option FaultRecord
  deriving DecidableEq, Repr

/-- The G-stack OAM DMA (R37): `dma_active`, `dma_src`, `dma_index`. -/
structure GDma where
  active : Bool
  src : Byte
  index : Nat
  deriving DecidableEq, Repr

/-- `IF` and `IE`, five bits each (R44, R45). -/
structure GIrq where
  ifReg : BitVec 5
  ieReg : BitVec 5
  deriving DecidableEq, Repr

/-- The timer (R41 to R43, R56): `div16`, `TIMA`, `TMA`, `TAC`, `ovf_delay`. -/
structure GTimer where
  div16 : Word
  tima : Byte
  tma : Byte
  tac : BitVec 3
  ovfDelay : Nat
  deriving DecidableEq, Repr

/-- `STAT.mode` (R47, R579). -/
inductive PpuMode where
  /-- Mode 0, horizontal blank. -/
  | hblank
  /-- Mode 1, vertical blank. -/
  | vblank
  /-- Mode 2, OAM search. -/
  | oamSearch
  /-- Mode 3, pixel transfer. -/
  | transfer
  deriving DecidableEq, Repr

/-- The picture unit: its registers (R46 to R49, R51) and its internal state (R55). `statSel` is bits
6..3 of STAT: `sel_lyc`, `sel_mode2`, `sel_mode1`, `sel_mode0`. -/
structure GPpu where
  lcdc : Byte
  statSel : BitVec 4
  mode : PpuMode
  scy : Byte
  scx : Byte
  ly : Byte
  lyc : Byte
  bgp : Byte
  obp0 : Byte
  obp1 : Byte
  wy : Byte
  wx : Byte
  dot : Nat
  winLine : Byte
  lineSprites : List Nat
  framebuffer : Picture
  frontBuffer : Picture
  frameReady : Bool
  deriving DecidableEq, Repr

/-- The G-stack memories (R38). -/
structure GMem where
  vram : Memory
  wram : Memory
  oam : Memory
  hram : Memory
  eram : Memory
  deriving DecidableEq, Repr

/-- The MBC1 registers (R38). -/
structure GMbc where
  ramEnable : Bool
  bankLo : BitVec 5
  bankHi : BitVec 2
  mode : Bool
  deriving DecidableEq, Repr

/-- The joypad register: `joy_select` (R40) and the host's `buttons` (R610). -/
structure GJoypad where
  select : BitVec 2
  buttons : Byte
  deriving DecidableEq, Repr

/-- The cartridge kinds of R10. -/
inductive GCartType where
  /-- Type 0x00 (R120). -/
  | romOnly
  /-- Types 0x01, 0x02, 0x03. -/
  | mbc1
  deriving DecidableEq, Repr

/-- The G-stack cartridge as its header gives it (R120): immutable after construction. -/
structure GCart where
  type : GCartType
  romBanks : Nat
  ramSize : Nat
  battery : Bool
  rom : Memory
  deriving DecidableEq, Repr

/-- The G-stack. -/
structure GStack where
  cpu : Sm83
  dma : GDma
  irq : GIrq
  timer : GTimer
  ppu : GPpu
  mem : GMem
  mbc : GMbc
  joy : GJoypad
  cart : GCart
  /-- The MODEL's own: what the external audio unit has seen, newest first (assumption log 1). -/
  apuPort : List PortEvent
  frame : FrameDriver
  /-- The MODEL's own: the cycle count that the last `Step` returned (R14; assumption log 9). -/
  cycles : Nat
  deriving DecidableEq, Repr

/-- A session: the two machines, which share nothing, and which of them the session runs (R1, R20, R630;
U39). -/
structure State where
  stack : StackId
  n : NStack
  g : GStack
  deriving DecidableEq, Repr

/-- Why `step` could end in a fault. No meaning and no step of this model does: `raise Fault` of R505 is
a state of the machine (`faulted = 1`, `Step` returns 0), so it is a next state (assumption log 13). -/
inductive Fault where
  /-- Raised by nobody. Safe. -/
  | neverRaised
  deriving DecidableEq, Repr

/-- Why `exec` could refuse an instruction. -/
inductive Refusal where
  /-- An arm of `exec` without a meaning, by the table's mnemonic; no arm of this model is one. Safe. -/
  | notModelled (mnemonic : String)
  deriving DecidableEq, Repr

/-- The cartridge of the N-stack in `State.reset`: one unit of NROM whose bytes are all 0x00. DESIGN
CHOICE (assumption log 7): a session has a cartridge and the spec loads it from outside. -/
def NCart.reset : NCart where
  mapper := .nrom
  prgUnits := 1
  chrUnits := 1
  mirroring := false
  battery := false
  fourScreen := false
  prgRom := []

/-- The N-stack after R650 with that cartridge, whose reset vector is 0x0000 (R60). That the picture unit sees
the reset as an event is the model's choice (assumption log 20). -/
def NStack.reset : NStack where
  cpu :=
    { a := 0x00, x := 0x00, y := 0x00, s := 0xFD, pc := 0x0000
      p := { n := false, v := false, d := false, i := true, z := false, c := false }
      nmiPending := false, irqLine := false, faulted := false, faultInfo := none }
  dma := { active := false, page := 0x00, index := 0 }
  ram := []
  prgRam := []
  prgBank := 0x00
  chrBank := 0x00
  joy := { strobe := false, shift0 := 0x00, shift1 := 0x00, buttons0 := 0x00, buttons1 := 0x00 }
  cart := NCart.reset
  ppuPort := [.advance Config.mIntCycles, .reset, .mirroring false, .attach 0]
  frame := { carry := Config.mIntCycles, count := Config.mIntCycles }
  cycles := 0

/-- The cartridge of the G-stack in `State.reset`: two ROM-only banks whose bytes are all 0x00. DESIGN
CHOICE (assumption log 7). -/
def GCart.reset : GCart where
  type := .romOnly
  romBanks := 2
  ramSize := 0
  battery := false
  rom := []

/-- The G-stack after R651 with that cartridge (R61, R62). That the audio unit sees the reset as an event is
the model's choice (assumption log 20). -/
def GStack.reset : GStack where
  cpu :=
    { a := 0x01, f := { z := true, n := false, h := true, c := true }
      b := 0x00, c := 0x13, d := 0x00, e := 0xD8, h := 0x01, l := 0x4D
      sp := 0xFFFE, pc := 0x0100, ime := false, imeDelay := 0
      halted := false, stopped := false, faulted := false, faultInfo := none }
  dma := { active := false, src := 0xFF, index := 0 }
  irq := { ifReg := 0b00001, ieReg := 0b00000 }
  timer := { div16 := 0xABCC, tima := 0x00, tma := 0x00, tac := 0b000, ovfDelay := 0 }
  ppu :=
    { lcdc := 0x91, statSel := 0b0000, mode := .oamSearch, scy := 0x00, scx := 0x00, ly := 0x00
      lyc := 0x00, bgp := 0xFC, obp0 := 0xFF, obp1 := 0xFF, wy := 0x00, wx := 0x00
      dot := 0, winLine := 0x00, lineSprites := [], framebuffer := [], frontBuffer := []
      frameReady := false }
  mem := { vram := [], wram := [], oam := [], hram := [], eram := [] }
  mbc := { ramEnable := false, bankLo := 1, bankHi := 0, mode := false }
  joy := { select := 0b11, buttons := 0x00 }
  cart := GCart.reset
  apuPort := [.reset, .attach 0]
  frame := { carry := 0, count := 0 }
  cycles := 0

/-- The machine right after reset: both stacks as R650 and R651 leave them, and the session's stack. -/
def State.reset : State where
  stack := Config.stack
  n := NStack.reset
  g := GStack.reset

end Sys2Proof.Machine
end

