-- ==== Sys2Proof/Machine/Memory.lean ====
section
/-! DEFINITION. Lists by key in one canonical form: keys strictly rising, no entry equal to what an
unlisted key reads as. Memories (R29, R38) and pictures (R55) are such lists. -/

namespace Sys2Proof.Machine

/-- The value at a key; `dflt` where the key is not listed. -/
def sparseRead {α : Type} (dflt : α) : List (Nat × α) → Nat → α
  | [], _ => dflt
  | (k, v) :: rest, key => if k = key then v else sparseRead dflt rest key

/-- The list with `key` reading as `v`: a value equal to `dflt` takes the entry away. -/
def sparseWrite {α : Type} [DecidableEq α] (dflt : α) (key : Nat) (v : α) :
    List (Nat × α) → List (Nat × α)
  | [] => if v = dflt then [] else [(key, v)]
  | (k, w) :: rest =>
    if key < k then
      if v = dflt then (k, w) :: rest else (key, v) :: (k, w) :: rest
    else if key = k then
      if v = dflt then rest else (key, v) :: rest
    else
      (k, w) :: sparseWrite dflt key v rest

/-- The canonical form of a list whose keys are all at least `low`. -/
def sparseWfFrom {α : Type} [DecidableEq α] (dflt : α) : Nat → List (Nat × α) → Bool
  | _, [] => true
  | low, (k, v) :: rest => decide (low ≤ k) && decide (v ≠ dflt) && sparseWfFrom dflt (k + 1) rest

/-- Every key of the list is below `size`. -/
def sparseBelow {α : Type} (size : Nat) (l : List (Nat × α)) : Bool :=
  l.all fun e => decide (e.1 < size)

namespace Memory

/-- What a byte that is not listed reads as (R29, R38: every memory is zero after reset). -/
def unlisted : Byte := 0x00

/-- The byte at an offset. -/
def read (m : Memory) (off : Nat) : Byte := sparseRead unlisted m off

/-- The memory with `v` at an offset. -/
def write (m : Memory) (off : Nat) (v : Byte) : Memory := sparseWrite unlisted off v m

/-- The canonical form. -/
def wf (m : Memory) : Bool := sparseWfFrom unlisted 0 m

/-- Every listed offset lies in a memory of `size` bytes. -/
def below (m : Memory) (size : Nat) : Bool := sparseBelow size m

/-- The memory that holds `bytes` from `off` on. -/
def ofBytesFrom : Nat → List Byte → Memory
  | _, [] => []
  | off, b :: bs => if b = unlisted then ofBytesFrom (off + 1) bs else (off, b) :: ofBytesFrom (off + 1) bs

/-- The memory that holds the bytes from offset 0 on. -/
def ofBytes (bs : List Byte) : Memory := ofBytesFrom 0 bs

/-- The `size` bytes of a memory from `off` on. -/
def toBytesFrom (m : Memory) : Nat → Nat → List Byte
  | _, 0 => []
  | off, size + 1 => read m off :: toBytesFrom m (off + 1) size

/-- All bytes of a memory of `size` bytes. -/
def toBytes (m : Memory) (size : Nat) : List Byte := toBytesFrom m 0 size

end Memory

namespace Picture

/-- A row that is not listed: 160 pixels of shade 0 (R55). -/
def blankRow : List Shade := List.replicate Config.ppuWidth 0

/-- Row `y` of a picture. -/
def row (p : Picture) (y : Nat) : List Shade := sparseRead blankRow p y

/-- The picture with row `y` replaced. -/
def setRow (p : Picture) (y : Nat) (r : List Shade) : Picture := sparseWrite blankRow y r p

/-- The shade of the pixel in row `y`, column `x`. -/
def pixel (p : Picture) (y x : Nat) : Shade := (row p y).getD x 0

/-- The canonical form. -/
def wf (p : Picture) : Bool := sparseWfFrom blankRow 0 p

/-- All 144 rows, as `GetFrameBuffer` hands them to the host (R690). -/
def rows (p : Picture) : List (List Shade) := (List.range Config.ppuVisible).map (row p)

end Picture

/-- `f` done `k` times. -/
def repeatN {α : Type} (f : α → α) : Nat → α → α
  | 0, a => a
  | k + 1, a => repeatN f k (f a)

/-- `b2i` as one bit. -/
def bit1 (b : Bool) : BitVec 1 := BitVec.ofBool b

end Sys2Proof.Machine
end

