-- ==== Sys2Proof/Machine/Flags.lean ====
section
/-! DEFINITION. Every flag computation of both cores: spec/10_state.md R25, R33;
spec/41_mos6502_alu.md R230, R231, R248 to R251; spec/46_sm83_alu.md R370, R379, R381, R383, R387 to
R390, R410, R413; spec/48_sm83_cb.md R470 to R479. Each works on the operands as numbers and narrows at
the end. -/

namespace Sys2Proof.Machine

/-- `b2i(c)` as a number (R11). -/
def b2n (b : Bool) : Nat := if b then 1 else 0

/-! The M6502. -/

namespace M6502Flags

/-- `PackP(b) = {N, V, 1, b, D, I, Z, C}` (R25). -/
def pack (p : M6502Flags) (b : Bool) : Byte :=
  bit1 p.n ++ bit1 p.v ++ 1#1 ++ bit1 b ++ bit1 p.d ++ bit1 p.i ++ bit1 p.z ++ bit1 p.c

/-- `UnpackP(v)`: bits 5 and 4 are discarded (R25). -/
def unpack (v : Byte) : M6502Flags where
  n := v.getLsbD 7
  v := v.getLsbD 6
  d := v.getLsbD 3
  i := v.getLsbD 2
  z := v.getLsbD 1
  c := v.getLsbD 0

/-- `SetNZ(v)` (R201). -/
def setNZ (p : M6502Flags) (v : Byte) : M6502Flags :=
  { p with n := v.getLsbD 7, z := v == 0 }

/-- The result of `AddCore(m)` for the accumulator `a` (R230). -/
def addResult (p : M6502Flags) (a m : Byte) : Byte :=
  BitVec.ofNat 8 (a.toNat + m.toNat + b2n p.c)

/-- The flags of `AddCore(m)` (R230). `D` plays no part: `M_DECIMAL` is false. -/
def addFlags (p : M6502Flags) (a m : Byte) : M6502Flags :=
  let r := p.addResult a m
  setNZ { p with
    c := decide (0xFF < a.toNat + m.toNat + b2n p.c)
    v := ((a ^^^ r) &&& (m ^^^ r)).getLsbD 7 } r

/-- The flags of `CompareCore(reg, m)` (R231). -/
def compare (p : M6502Flags) (reg m : Byte) : M6502Flags :=
  { p with c := decide (m.toNat ≤ reg.toNat), z := reg == m, n := (reg - m).getLsbD 7 }

/-- The flags of BIT (R241). -/
def bitTest (p : M6502Flags) (a m : Byte) : M6502Flags :=
  { p with z := (a &&& m) == 0, n := m.getLsbD 7, v := m.getLsbD 6 }

end M6502Flags

/-- The result and the carry out of ASL (R248). -/
def asl8 (m : Byte) : Byte × Bool := (m <<< 1, m.getLsbD 7)
/-- The result and the carry out of LSR (R249). -/
def lsr8 (m : Byte) : Byte × Bool := (m >>> 1, m.getLsbD 0)
/-- The result and the carry out of ROL with carry in `c` (R250). -/
def rol8 (c : Bool) (m : Byte) : Byte × Bool :=
  ((m <<< 1) ||| (bit1 c).zeroExtend 8, m.getLsbD 7)
/-- The result and the carry out of ROR with carry in `c` (R251). -/
def ror8 (c : Bool) (m : Byte) : Byte × Bool :=
  ((m >>> 1) ||| ((bit1 c).zeroExtend 8 <<< 7), m.getLsbD 0)

/-! The SM83. -/

namespace Sm83Flags

/-- The byte `F`: bits 3 to 0 are 0 (R33). -/
def toByte (f : Sm83Flags) : Byte := bit1 f.z ++ bit1 f.n ++ bit1 f.h ++ bit1 f.c ++ 0#4

/-- The flags a byte written to `F` leaves: bits 3 to 0 are discarded (R33, R311). -/
def ofByte (v : Byte) : Sm83Flags where
  z := v.getLsbD 7
  n := v.getLsbD 6
  h := v.getLsbD 5
  c := v.getLsbD 4

end Sm83Flags

/-- The low nibble of a byte as a number. -/
def nibble (b : Byte) : Nat := b.toNat % 16

/-- `Add8(m, c)` on the accumulator `a`: the result and the flags (R370). -/
def add8 (a m : Byte) (c : Bool) : Byte × Sm83Flags :=
  let s := a.toNat + m.toNat + b2n c
  let r := BitVec.ofNat 8 s
  (r, { z := r == 0, n := false, h := decide (0xF < nibble a + nibble m + b2n c), c := decide (0xFF < s) })

/-- `Sub8(m, c, ·)` on the accumulator `a`: the difference and the flags (R370). -/
def sub8 (a m : Byte) (c : Bool) : Byte × Sm83Flags :=
  let d : Int := (a.toNat : Int) - m.toNat - b2n c
  let r := BitVec.ofInt 8 d
  (r, { z := r == 0, n := true, h := decide (nibble a < nibble m + b2n c), c := decide (d < 0) })

/-- A logic operation of the accumulator: the result `r`, `H` forced to `h` (R375 to R377). -/
def logic8 (r : Byte) (h : Bool) : Byte × Sm83Flags :=
  (r, { z := r == 0, n := false, h := h, c := false })

/-- The eight operations `alu[y]` (R371 to R378): the new accumulator and the new flags. -/
def aluOp (op : AluOp) (f : Sm83Flags) (a m : Byte) : Byte × Sm83Flags :=
  match op with
  | .add => add8 a m false
  | .adc => add8 a m f.c
  | .sub => sub8 a m false
  | .sbc => sub8 a m f.c
  | .and => logic8 (a &&& m) true
  | .xor => logic8 (a ^^^ m) false
  | .or => logic8 (a ||| m) false
  | .cp => (a, (sub8 a m false).2)

/-- INC of a byte: the result and the flags, carry untouched (R379). -/
def inc8 (f : Sm83Flags) (v : Byte) : Byte × Sm83Flags :=
  (v + 1, { f with z := v + 1 == 0, n := false, h := decide (nibble v = 0xF) })

/-- DEC of a byte: the result and the flags, carry untouched (R381). -/
def dec8 (f : Sm83Flags) (v : Byte) : Byte × Sm83Flags :=
  (v - 1, { f with z := v - 1 == 0, n := true, h := decide (nibble v = 0) })

/-- DAA: the adjusted accumulator and the flags (R383). The tests after the first addition look at the
changed `a`, as the rule writes them. -/
def daa (f : Sm83Flags) (acc : Byte) : Byte × Sm83Flags :=
  let a0 : Int := acc.toNat
  let big := f.c || decide (0x99 < a0)
  let a1 : Int := if f.n then (if f.c then a0 - 0x60 else a0) else (if big then a0 + 0x60 else a0)
  let low := if f.n then f.h else f.h || decide (9 < a1 % 16)
  let a2 : Int := if low then (if f.n then a1 - 0x06 else a1 + 0x06) else a1
  let r := BitVec.ofInt 8 a2
  (r, { f with z := r == 0, h := false, c := if f.n then f.c else big })

/-- The result and the carry of a rotate or shift `rot[y]` with the old carry `cin` (R471 to R478). -/
def rotOp (op : RotOp) (cin : Bool) (v : Byte) : Byte × Bool :=
  match op with
  | .rlc => ((v <<< 1) ||| (bit1 (v.getLsbD 7)).zeroExtend 8, v.getLsbD 7)
  | .rrc => ((v >>> 1) ||| ((bit1 (v.getLsbD 0)).zeroExtend 8 <<< 7), v.getLsbD 0)
  | .rl => ((v <<< 1) ||| (bit1 cin).zeroExtend 8, v.getLsbD 7)
  | .rr => ((v >>> 1) ||| ((bit1 cin).zeroExtend 8 <<< 7), v.getLsbD 0)
  | .sla => (v <<< 1, v.getLsbD 7)
  | .sra => ((v >>> 1) ||| (v &&& 0x80), v.getLsbD 0)
  | .swap => (v.extractLsb' 0 4 ++ v.extractLsb' 4 4, false)
  | .srl => (v >>> 1, v.getLsbD 0)

/-- The flags of a rotate or shift of the second table (R470). -/
def rotFlags (r : Byte) (c : Bool) : Sm83Flags := { z := r == 0, n := false, h := false, c := c }

/-- The flags of RLCA, RLA, RRCA, RRA: `F <- {0, 0, 0, c}` (R387 to R390). -/
def rotAFlags (c : Bool) : Sm83Flags := { z := false, n := false, h := false, c := c }

/-- The flags of BIT `b` on `v` (R479). -/
def bitFlags (f : Sm83Flags) (b : Nat) (v : Byte) : Sm83Flags :=
  { f with z := !v.getLsbD b, n := false, h := true }

/-- ADD HL,rr: the sum and the flags, `Z` untouched (R410). -/
def addHl (f : Sm83Flags) (hl v : Word) : Word × Sm83Flags :=
  (hl + v, { f with
    n := false
    h := decide (0xFFF < hl.toNat % 0x1000 + v.toNat % 0x1000)
    c := decide (0xFFFF < hl.toNat + v.toNat) })

/-- `SP + sext(b1)` with its flags: the two carries are those of the unsigned addition of the raw byte
to the low byte of `SP` (R354, R413). -/
def addSp (sp : Word) (b1 : Byte) : Word × Sm83Flags :=
  (sp + sext16 b1,
    { z := false, n := false
      h := decide (0xF < sp.toNat % 16 + b1.toNat % 16)
      c := decide (0xFF < sp.toNat % 256 + b1.toNat) })

/-- `Cond(cc)` (R430). -/
def condHolds (cc : Cond) (f : Sm83Flags) : Bool :=
  match cc with
  | .nz => !f.z
  | .z => f.z
  | .nc => !f.c
  | .c => f.c

end Sys2Proof.Machine
end

