-- ==== Sys2Proof/Machine/Timer.lean ====
section
/-! DEFINITION. The G-stack interrupt request bits and the timer (spec/60_exceptions.md R525, R560 to
R568). -/

namespace Sys2Proof.Machine

/-- The five request bits by name (R44, R525). -/
inductive IrqBit where
  | vblank | stat | timer | serial | joypad
  deriving DecidableEq, Repr

/-- The bit number of a request. -/
def IrqBit.index : IrqBit → Nat
  | .vblank => 0 | .stat => 1 | .timer => 2 | .serial => 3 | .joypad => 4

/-- A source sets its bit of `IF`; a bit already 1 stays 1 (R525). -/
def GIrq.request (q : GIrq) (b : IrqBit) : GIrq :=
  { q with ifReg := q.ifReg ||| (1#5 <<< b.index) }

/-- A request under a condition. -/
def GIrq.requestIf (q : GIrq) (c : Bool) (b : IrqBit) : GIrq := if c then q.request b else q

/-- `pending = IE and IF and 0x1F` (R527). -/
def GIrq.pending (q : GIrq) : BitVec 5 := q.ieReg &&& q.ifReg

namespace GTimer

/-- `TAC.enable` (R43). -/
def enabled (t : GTimer) : Bool := t.tac.getLsbD 2

/-- `TimerBit(TAC.rate)` (R563). -/
def rateBit (t : GTimer) : Nat :=
  if t.tac.extractLsb' 0 2 = 0b00 then 9
  else if t.tac.extractLsb' 0 2 = 0b01 then 3
  else if t.tac.extractLsb' 0 2 = 0b10 then 5
  else 7

/-- `TimaInc()` (R562). -/
def timaInc (t : GTimer) : GTimer :=
  if t.tima = 0xFF then { t with tima := 0x00, ovfDelay := Config.timerReloadDelay }
  else { t with tima := t.tima + 1 }

/-- Step 1 of `Tick()`: the overflow delay, with the reload and the request at its end (R562, R564). -/
def tickDelay (t : GTimer) (q : GIrq) : GTimer × GIrq :=
  if t.ovfDelay = 0 then (t, q)
  else if t.ovfDelay = 1 then ({ t with ovfDelay := 0, tima := t.tma }, q.request .timer)
  else ({ t with ovfDelay := t.ovfDelay - 1 }, q)

/-- Steps 2 and 3 of `Tick()`: the divider, and the increment on a falling edge of its selected bit (R562). -/
def tickDivider (t : GTimer) : GTimer :=
  let t' := { t with div16 := t.div16 + 1 }
  if t.enabled && t.div16.getLsbD t.rateBit && !t'.div16.getLsbD t.rateBit then t'.timaInc else t'

/-- `Tick()` (R562). -/
def tick (p : GTimer × GIrq) : GTimer × GIrq :=
  let (t, q) := tickDelay p.1 p.2
  (t.tickDivider, q)

/-- `Timer.Step(c)` (R561). -/
def advance (c : Nat) (t : GTimer) (q : GIrq) : GTimer × GIrq := repeatN tick c (t, q)

/-- A write to DIV, any value (R566). -/
def writeDiv (t : GTimer) : GTimer := { t with div16 := 0, ovfDelay := 0 }
/-- A write to TIMA (R567). -/
def writeTima (t : GTimer) (v : Byte) : GTimer := { t with tima := v, ovfDelay := 0 }
/-- A write to TMA (R568). -/
def writeTma (t : GTimer) (v : Byte) : GTimer := { t with tma := v }
/-- A write to TAC (R565). -/
def writeTac (t : GTimer) (v : Byte) : GTimer := { t with tac := v.extractLsb' 0 3 }

/-- A read of DIV: `div16[15:8]` (R96). -/
def readDiv (t : GTimer) : Byte := hiByte t.div16
/-- A read of TAC: `0xF8 | TAC` (R96). -/
def readTac (t : GTimer) : Byte := 0b11111#5 ++ t.tac

end GTimer

end Sys2Proof.Machine
end

