-- ==== Sys2Proof/Machine/Ppu.lean ====
section
/-! DEFINITION. The G-stack picture processing unit: the mode machine and its requests
(spec/60_exceptions.md R575 to R585) and the scanline renderer (R590 to R600). -/

namespace Sys2Proof.Machine

/-- The two bits of `STAT.mode` (R47). -/
def PpuMode.bits : PpuMode → BitVec 2
  | .hblank => 0 | .vblank => 1 | .oamSearch => 2 | .transfer => 3

namespace GPpu

/-! The fields of LCDC (R46). -/

/-- `lcd_on`, bit 7. -/
def lcdOn (p : GPpu) : Bool := p.lcdc.getLsbD 7
/-- `win_map`, bit 6. -/
def winMap (p : GPpu) : Bool := p.lcdc.getLsbD 6
/-- `win_on`, bit 5. -/
def winOn (p : GPpu) : Bool := p.lcdc.getLsbD 5
/-- `tile_data`, bit 4. -/
def tileData (p : GPpu) : Bool := p.lcdc.getLsbD 4
/-- `bg_map`, bit 3. -/
def bgMap (p : GPpu) : Bool := p.lcdc.getLsbD 3
/-- `obj_size`, bit 2: true is 8x16. -/
def objTall (p : GPpu) : Bool := p.lcdc.getLsbD 2
/-- `obj_on`, bit 1. -/
def objOn (p : GPpu) : Bool := p.lcdc.getLsbD 1
/-- `bg_on`, bit 0. -/
def bgOn (p : GPpu) : Bool := p.lcdc.getLsbD 0

/-! The select bits of STAT (R47). -/

/-- `sel_lyc`, STAT bit 6. -/
def selLyc (p : GPpu) : Bool := p.statSel.getLsbD 3
/-- `sel_mode2`, STAT bit 5. -/
def selMode2 (p : GPpu) : Bool := p.statSel.getLsbD 2
/-- `sel_mode1`, STAT bit 4. -/
def selMode1 (p : GPpu) : Bool := p.statSel.getLsbD 1
/-- `sel_mode0`, STAT bit 3. -/
def selMode0 (p : GPpu) : Bool := p.statSel.getLsbD 0

/-- `STAT.coincidence`, computed at every read (R584). -/
def coincidence (p : GPpu) : Bool := p.ly == p.lyc

/-- A read of STAT (R97). -/
def readStat (p : GPpu) : Byte := 1#1 ++ p.statSel ++ bit1 p.coincidence ++ p.mode.bits

/-! The renderer. It reads `vram` and `oam` directly (R590). -/

/-- `Shade(pal, c)` (R599). -/
def shade (pal : Byte) (c : Nat) : Shade := pal.extractLsb' (2 * c) 2

/-- `TilePixel(addr, col, row)` (R594). -/
def tilePixel (vram : Memory) (addr col row : Nat) : Nat :=
  let lo := vram.read (addr + 2 * row)
  let hi := vram.read (addr + 2 * row + 1)
  2 * b2n (hi.getLsbD (7 - col)) + b2n (lo.getLsbD (7 - col))

/-- `BgTileAddr(t)` (R593). -/
def bgTileAddr (p : GPpu) (t : Byte) : Nat :=
  if p.tileData then 16 * t.toNat
  else if t.toNat < 0x80 then 0x1000 + 16 * t.toNat
  else 0x1000 + 16 * t.toNat - 16 * 0x100

/-- The `vram` offset of the tile number for map column `mx`, map row `my` of the map at `base` (R591, R592). -/
def mapOffset (base mx my : Nat) : Nat := base + 32 * (my / 8) + mx / 8

/-- The pixel of the tile map at `base` in map column `mx`, map row `my` (R591, R592). -/
def mapPixel (p : GPpu) (vram : Memory) (base mx my : Nat) : Nat :=
  let t := vram.read (mapOffset base mx my)
  tilePixel vram (p.bgTileAddr t) (mx % 8) (my % 8)

/-- `WindowOnLine(ly)` (R592). -/
def windowOnLine (p : GPpu) (ly : Nat) : Bool :=
  p.bgOn && p.winOn && decide (p.wy.toNat ≤ ly) && decide (p.wx.toNat ≤ 166)

/-- `BgWinIndex(x, ly)` (R591, R592). -/
def bgWinIndex (p : GPpu) (vram : Memory) (x ly : Nat) : Nat :=
  if !p.bgOn then 0
  else if p.windowOnLine ly && decide (p.wx.toNat ≤ x + 7) then
    p.mapPixel vram (if p.winMap then 0x1C00 else 0x1800) (x + 7 - p.wx.toNat) p.winLine.toNat
  else
    p.mapPixel vram (if p.bgMap then 0x1C00 else 0x1800)
      ((x + p.scx.toNat) % 0x100) ((ly + p.scy.toNat) % 0x100)

/-- The height of a sprite (R595). -/
def spriteHeight (p : GPpu) : Nat := if p.objTall then 16 else 8

/-- Whether OAM entry `i` lies on line `ly` (R595). -/
def spriteOnLine (p : GPpu) (oam : Memory) (ly i : Nat) : Bool :=
  let y := (oam.read (4 * i)).toNat
  decide (y ≤ ly + 16) && decide (ly + 16 < y + p.spriteHeight)

/-- The sprites chosen for a line, in OAM order, at most ten (R595). -/
def chosenSprites (p : GPpu) (oam : Memory) (ly : Nat) : List Nat :=
  if p.objOn then
    ((List.range Config.ppuSprites).filter (p.spriteOnLine oam ly)).take Config.ppuSpritesPerLine
  else []

/-- Whether sprite `i` has priority over sprite `j` (R596). -/
def spriteBefore (oam : Memory) (i j : Nat) : Bool :=
  let xi := (oam.read (4 * i + 1)).toNat
  let xj := (oam.read (4 * j + 1)).toNat
  decide (xi < xj) || (decide (xi = xj) && decide (i < j))

/-- `i` put into a list that is sorted by priority. -/
def insertSprite (oam : Memory) (i : Nat) : List Nat → List Nat
  | [] => [i]
  | j :: rest => if spriteBefore oam i j then i :: j :: rest else j :: insertSprite oam i rest

/-- A list of sprites sorted by priority, highest first (R596). -/
def sortSprites (oam : Memory) : List Nat → List Nat
  | [] => []
  | i :: rest => insertSprite oam i (sortSprites oam rest)

/-- `SelectSprites(ly)` (R595, R596). -/
def selectSprites (p : GPpu) (oam : Memory) (ly : Nat) : List Nat :=
  sortSprites oam (p.chosenSprites oam ly)

/-- A pixel of the sprite layer: the colour index, the palette bit and the `behind` bit (R597). -/
structure SpritePixel where
  c : Nat
  pal : Bool
  behind : Bool
  deriving DecidableEq, Repr

/-- The row of sprite `i` that lies on line `ly`, its Y flip applied (R597). -/
def spriteRow (p : GPpu) (oam : Memory) (ly i : Nat) : Nat :=
  let row := ly + 16 - (oam.read (4 * i)).toNat
  if (oam.read (4 * i + 3)).getLsbD 6 then p.spriteHeight - 1 - row else row

/-- The `vram` offset of the tile data of sprite `i`, its tile number even if sprites are tall (R593, R597). -/
def spriteTileAddr (p : GPpu) (oam : Memory) (i : Nat) : Nat :=
  let t := oam.read (4 * i + 2)
  16 * (if p.objTall then t &&& 0xFE else t).toNat

/-- The pixel that sprite `i` alone gives at column `x` of line `ly`, if it is opaque there (R597). -/
def pixelOfSprite (p : GPpu) (vram oam : Memory) (x ly i : Nat) : Option SpritePixel :=
  let sx := (oam.read (4 * i + 1)).toNat
  if x + 8 < sx ∨ sx + 7 < x + 8 then none
  else
    let attr := oam.read (4 * i + 3)
    let col := x + 8 - sx
    let col := if attr.getLsbD 5 then 7 - col else col
    let c := tilePixel vram (p.spriteTileAddr oam i) col (p.spriteRow oam ly i)
    if c = 0 then none else some { c := c, pal := attr.getLsbD 4, behind := attr.getLsbD 7 }

/-- `SpritePixel(x, ly)`: the first opaque pixel in priority order (R597). -/
def spritePixel (p : GPpu) (vram oam : Memory) (x ly : Nat) : List Nat → Option SpritePixel
  | [] => none
  | i :: rest =>
    match p.pixelOfSprite vram oam x ly i with
    | some s => some s
    | none => p.spritePixel vram oam x ly rest

/-- The shade of one pixel: the sprite over the background unless it is behind an opaque one (R590, R598). -/
def mixPixel (p : GPpu) (bg : Nat) (s : Option SpritePixel) : Shade :=
  match s with
  | none => shade p.bgp bg
  | some s =>
    if s.behind && bg != 0 then shade p.bgp bg
    else shade (if s.pal then p.obp1 else p.obp0) s.c

/-- The 160 shades of line `ly` with the sprites chosen for it (R590). -/
def renderRow (p : GPpu) (vram oam : Memory) (ly : Nat) (sprites : List Nat) : List Shade :=
  (List.range Config.ppuWidth).map fun x =>
    p.mixPixel (p.bgWinIndex vram x ly) (p.spritePixel vram oam x ly sprites)

/-- `RenderLine(ly)` (R590). The background indices are taken before `win_line` moves on. -/
def renderLine (p : GPpu) (vram oam : Memory) (ly : Nat) : GPpu :=
  let sprites := p.selectSprites oam ly
  { p with
    framebuffer := p.framebuffer.setRow ly (p.renderRow vram oam ly sprites)
    winLine := if p.windowOnLine ly then p.winLine + 1 else p.winLine
    lineSprites := sprites }

/-! The mode machine. -/

/-- `EnterLine(n)` (R578), with the vertical-blank request (R580), the frame handover (R582) and the
request points of R583. -/
def enterLine (n : Nat) (p : GPpu) (q : GIrq) : GPpu × GIrq :=
  let p := { p with ly := BitVec.ofNat 8 n }
  let (p, q) :=
    if n = 0 then
      ({ p with winLine := 0, mode := .oamSearch }, q.requestIf p.selMode2 .stat)
    else if n < Config.ppuVisible then
      ({ p with mode := .oamSearch }, q.requestIf p.selMode2 .stat)
    else if n = Config.ppuVisible then
      ({ p with mode := .vblank, frontBuffer := p.framebuffer, frameReady := true },
        (q.request .vblank).requestIf p.selMode1 .stat)
    else (p, q)
  (p, q.requestIf (p.coincidence && p.selLyc) .stat)

/-- The dot thresholds of a visible line (R577). -/
def dotModes (vram oam : Memory) (p : GPpu) (q : GIrq) : GPpu × GIrq :=
  if p.ly.toNat < Config.ppuVisible then
    if p.dot = Config.ppuMode2Dots then ({ p with mode := .transfer }, q)
    else if p.dot = Config.ppuMode2Dots + Config.ppuMode3Dots then
      ({ p.renderLine vram oam p.ly.toNat with mode := .hblank }, q.requestIf p.selMode0 .stat)
    else (p, q)
  else (p, q)

/-- The end of a line (R577). -/
def dotLineEnd (p : GPpu) (q : GIrq) : GPpu × GIrq :=
  if p.dot = Config.ppuDots then
    enterLine (if p.ly.toNat = Config.ppuLines - 1 then 0 else p.ly.toNat + 1) { p with dot := 0 } q
  else (p, q)

/-- `DotTick()` (R577). -/
def dotTick (vram oam : Memory) (s : GPpu × GIrq) : GPpu × GIrq :=
  let (p, q) := dotModes vram oam { s.1 with dot := s.1.dot + 1 } s.2
  dotLineEnd p q

/-- `PPU.Step(c)` (R576). -/
def advance (vram oam : Memory) (c : Nat) (p : GPpu) (q : GIrq) : GPpu × GIrq :=
  if p.lcdOn then repeatN (dotTick vram oam) c (p, q) else (p, q)

/-- What a change of `lcd_on` does after LCDC is stored: on to off, or off to on (R585). -/
def lcdSwitch (wasOn : Bool) (p : GPpu) (q : GIrq) : GPpu × GIrq :=
  if wasOn && !p.lcdOn then
    ({ p with ly := 0, dot := 0, mode := .hblank, winLine := 0 }, q)
  else if !wasOn && p.lcdOn then enterLine 0 { p with dot := 0 } q
  else (p, q)

/-- A write to LCDC (R97, R585). -/
def writeLcdc (v : Byte) (p : GPpu) (q : GIrq) : GPpu × GIrq :=
  lcdSwitch p.lcdOn { p with lcdc := v } q

end GPpu

end Sys2Proof.Machine
end

