-- ==== Sys2Proof/Machine/Bus.lean ====
section
/-! DEFINITION. The bus of each stack: address decoding, mirrors, bank selection, arbitration, device
registers and the DMA triggers (spec/20_memory.md R70 to R124; spec/60_exceptions.md R565 to R568, R585,
R610). Storage and registers are kept apart: `cellOf` says which byte of storage an address reaches now,
and every address that reaches none goes to `readRegister` and `writeRegister`. -/

namespace Sys2Proof.Machine

/-! ## The N-stack -/

/-- The claimants of the N-stack address space (R75). -/
inductive NClaim where
  /-- 0x0000-0x1FFF: `ram` at an offset, mirrors resolved. -/
  | ram (off : Nat)
  /-- 0x2000-0x3FFF: a register of the external picture unit, mirrors resolved (R80). -/
  | ppuPort (reg : Nat)
  /-- 0x4014 (R86). -/
  | dmaTrigger
  /-- 0x4016 (R84). -/
  | joypad1
  /-- 0x4017 (R84). -/
  | joypad2
  /-- 0x6000-0x7FFF: `prg_ram` at an offset. -/
  | prgRam (off : Nat)
  /-- 0x8000-0xFFFF: the mapper, offset from 0x8000 (R117 to R119). -/
  | mapper (off : Nat)
  /-- Everything else: the default case (R71, R83). -/
  | unclaimed
  deriving DecidableEq, Repr

/-- The N-stack decode table (R75, R73). -/
def nClaim (a : Word) : NClaim :=
  let n := a.toNat
  if n < 0x2000 then .ram (n % 0x800)
  else if n < 0x4000 then .ppuPort (n % 8)
  else if n = 0x4014 then .dmaTrigger
  else if n = 0x4016 then .joypad1
  else if n = 0x4017 then .joypad2
  else if n < 0x6000 then .unclaimed
  else if n < 0x8000 then .prgRam (n - 0x6000)
  else .mapper (n - 0x8000)

/-- The writable storage of the N-stack (R29). -/
inductive NRegion where
  | ram
  | prgRam
  deriving DecidableEq, Repr

/-- One byte of the N-stack's writable storage. -/
abbrev NCell := NRegion × Nat

namespace NCart

/-- The offset into `prg_rom` that the mapper answers a read of 0x8000 + `off` from (R117 to R119). -/
def romOffset (cart : NCart) (prgBank : Byte) (off : Nat) : Nat :=
  match cart.mapper with
  | .nrom | .cnrom => off % (cart.prgUnits * 0x4000)
  | .uxrom =>
    if off < 0x4000 then (prgBank.toNat % cart.prgUnits) * 0x4000 + off
    else (cart.prgUnits - 1) * 0x4000 + (off - 0x4000)

end NCart

namespace NJoypad

/-- The button byte of a controller. -/
def buttons (j : NJoypad) (second : Bool) : Byte := if second then j.buttons1 else j.buttons0
/-- The shift register of a controller. -/
def shift (j : NJoypad) (second : Bool) : Byte := if second then j.shift1 else j.shift0
/-- A shift register replaced. -/
def setShift (j : NJoypad) (second : Bool) (v : Byte) : NJoypad :=
  if second then { j with shift1 := v } else { j with shift0 := v }

/-- A read of 0x4016 or 0x4017 (R84). -/
def read (j : NJoypad) (second : Bool) : Byte × NJoypad :=
  if j.strobe then (0x40 ||| (j.buttons second &&& 1), j)
  else (0x40 ||| (j.shift second &&& 1), j.setShift second ((j.shift second >>> 1) ||| 0x80))

/-- A write of 0x4016 (R84). -/
def writeStrobe (j : NJoypad) (v : Byte) : NJoypad :=
  if v.getLsbD 0 then { j with strobe := true, shift0 := j.buttons0, shift1 := j.buttons1 }
  else { j with strobe := false }

end NJoypad

namespace NStack

/-- The byte of writable storage that an address reaches (R75). -/
def cellOf (_ : NStack) (a : Word) : Option NCell :=
  match nClaim a with
  | .ram off => some (.ram, off)
  | .prgRam off => some (.prgRam, off)
  | .ppuPort _ | .dmaTrigger | .joypad1 | .joypad2 | .mapper _ | .unclaimed => none

/-- One byte of writable storage. -/
def peek (n : NStack) (c : NCell) : Byte :=
  match c.1 with
  | .ram => n.ram.read c.2
  | .prgRam => n.prgRam.read c.2

/-- One byte of writable storage replaced. -/
def poke (n : NStack) (c : NCell) (v : Byte) : NStack :=
  match c.1 with
  | .ram => { n with ram := n.ram.write c.2 v }
  | .prgRam => { n with prgRam := n.prgRam.write c.2 v }

/-- What the external picture unit sees next, put at the head of the list. -/
def portEvent (n : NStack) (e : PortEvent) : NStack := { n with ppuPort := e :: n.ppuPort }

/-- `Write(0x4014, v)` (R86). -/
def dmaTrigger (n : NStack) (v : Byte) : NStack :=
  { n with dma := { active := true, page := v, index := 0 } }

/-- A write to 0x8000-0xFFFF (R117 to R119): mapper 3 presents its bank to the picture unit. -/
def mapperWrite (n : NStack) (v : Byte) : NStack :=
  match n.cart.mapper with
  | .nrom => n
  | .uxrom => { n with prgBank := v }
  | .cnrom => { n with chrBank := v }.portEvent (.charBank (v.toNat % max n.cart.chrUnits 1))

/-- A read of an address that reaches no writable storage. -/
def readRegister (n : NStack) (a : Word) : Byte × NStack :=
  match nClaim a with
  | .ppuPort reg =>
    (Config.ppuPortRead n.ppuPort (BitVec.ofNat 16 reg), n.portEvent (.read (BitVec.ofNat 16 reg)))
  | .joypad1 => ((n.joy.read false).1, { n with joy := (n.joy.read false).2 })
  | .joypad2 => ((n.joy.read true).1, { n with joy := (n.joy.read true).2 })
  | .mapper off => (n.cart.prgRom.read (n.cart.romOffset n.prgBank off), n)
  | .ram _ | .prgRam _ | .dmaTrigger | .unclaimed => (Config.openBusN, n)

/-- A write of an address that reaches no writable storage. -/
def writeRegister (n : NStack) (a : Word) (v : Byte) : NStack :=
  match nClaim a with
  | .ppuPort reg => n.portEvent (.write (BitVec.ofNat 16 reg) v)
  | .dmaTrigger => n.dmaTrigger v
  | .joypad1 => { n with joy := n.joy.writeStrobe v }
  | .mapper _ => n.mapperWrite v
  | .ram _ | .prgRam _ | .joypad2 | .unclaimed => n

/-- `Read(a)` of the N-stack bus (R70), with its effect on the stack. -/
def read (n : NStack) (a : Word) : Byte × NStack :=
  match n.cellOf a with
  | some c => (n.peek c, n)
  | none => n.readRegister a

/-- `Write(a, v)` of the N-stack bus (R70). -/
def write (n : NStack) (a : Word) (v : Byte) : NStack :=
  match n.cellOf a with
  | some c => n.poke c v
  | none => n.writeRegister a v

end NStack

/-! ## The G-stack -/

/-- The claimants of the G-stack address space (R93). -/
inductive GClaim where
  /-- 0x0000-0x7FFF: cartridge ROM and the bank-select registers. -/
  | rom (a : Nat)
  /-- 0x8000-0x9FFF: `vram`, arbitrated (R106). -/
  | vram (off : Nat)
  /-- 0xA000-0xBFFF: cartridge RAM (R123). -/
  | eram (off : Nat)
  /-- 0xC000-0xFDFF: `wram`, mirror resolved. -/
  | wram (off : Nat)
  /-- 0xFE00-0xFE9F: `oam`, arbitrated (R107). -/
  | oam (off : Nat)
  /-- 0xFF00 (R610). -/
  | p1
  /-- 0xFF04 (R41). -/
  | div
  /-- 0xFF05 (R42). -/
  | tima
  /-- 0xFF06 (R42). -/
  | tma
  /-- 0xFF07 (R43). -/
  | tac
  /-- 0xFF0F (R44). -/
  | ifReg
  /-- 0xFF10-0xFF3F: the external audio unit (R98). -/
  | apuPort
  /-- 0xFF40 (R46). -/
  | lcdc
  /-- 0xFF41 (R47). -/
  | stat
  /-- 0xFF42 (R48). -/
  | scy
  /-- 0xFF43 (R48). -/
  | scx
  /-- 0xFF44 (R49). -/
  | ly
  /-- 0xFF45 (R48). -/
  | lyc
  /-- 0xFF46 (R50). -/
  | dma
  /-- 0xFF47 (R51). -/
  | bgp
  /-- 0xFF48 (R51). -/
  | obp0
  /-- 0xFF49 (R51). -/
  | obp1
  /-- 0xFF4A (R48). -/
  | wy
  /-- 0xFF4B (R48). -/
  | wx
  /-- 0xFF80-0xFFFE: `hram`. -/
  | hram (off : Nat)
  /-- 0xFFFF (R45). -/
  | ieReg
  /-- Everything else: the default case (R71). -/
  | unclaimed
  deriving DecidableEq, Repr

/-- The page 0xFF00-0xFFFF by its low byte (R93, R96, R97). -/
def ioClaim (i : Nat) : GClaim :=
  if i < 0x10 then
    if i = 0x00 then .p1
    else if i = 0x04 then .div
    else if i = 0x05 then .tima
    else if i = 0x06 then .tma
    else if i = 0x07 then .tac
    else if i = 0x0F then .ifReg
    else .unclaimed
  else if i < 0x40 then .apuPort
  else if i < 0x4C then
    if i = 0x40 then .lcdc
    else if i = 0x41 then .stat
    else if i = 0x42 then .scy
    else if i = 0x43 then .scx
    else if i = 0x44 then .ly
    else if i = 0x45 then .lyc
    else if i = 0x46 then .dma
    else if i = 0x47 then .bgp
    else if i = 0x48 then .obp0
    else if i = 0x49 then .obp1
    else if i = 0x4A then .wy
    else .wx
  else if i < 0x80 then .unclaimed
  else if i < 0xFF then .hram (i - 0x80)
  else .ieReg

/-- The G-stack decode table (R93, R73). -/
def gClaim (a : Word) : GClaim :=
  let n := a.toNat
  if n < 0x8000 then .rom n
  else if n < 0xA000 then .vram (n - 0x8000)
  else if n < 0xC000 then .eram (n - 0xA000)
  else if n < 0xE000 then .wram (n - 0xC000)
  else if n < 0xFE00 then .wram (n - 0x2000 - 0xC000)
  else if n < 0xFEA0 then .oam (n - 0xFE00)
  else if n < 0xFF00 then .unclaimed
  else ioClaim (n - 0xFF00)

/-- Who reads the bus: the CPU, or the DMA engine, whose source reads pass the VRAM blocking (R101). -/
inductive BusMaster where
  | cpu
  | dma
  deriving DecidableEq, Repr

/-- The writable storage of the G-stack (R38). -/
inductive GRegion where
  | vram | wram | oam | hram | eram
  deriving DecidableEq, Repr

/-- One byte of the G-stack's writable storage. -/
abbrev GCell := GRegion × Nat

/-- `P1Low(sel, btn)` (R610). -/
def p1Low (sel : BitVec 2) (btn : Byte) : BitVec 4 :=
  let lo : BitVec 4 := if sel.getLsbD 0 then 0xF else 0xF &&& ~~~(btn.extractLsb' 0 4)
  if sel.getLsbD 1 then lo else lo &&& ~~~(btn.extractLsb' 4 4)

/-- `Read(0xFF00)` (R610). -/
def GJoypad.read (j : GJoypad) : Byte := 0b11#2 ++ j.select ++ p1Low j.select j.buttons

namespace GStack

/-- VRAM is closed to the CPU: the LCD is on and the mode is 3 (R106). -/
def vramBlocked (g : GStack) : Bool := g.ppu.lcdOn && g.ppu.mode == .transfer

/-- OAM is closed to the CPU: the LCD is on and the mode is 2 or 3 (R107). -/
def oamBlocked (g : GStack) : Bool :=
  g.ppu.lcdOn && (g.ppu.mode == .oamSearch || g.ppu.mode == .transfer)

/-- The bank in the window 0x0000-0x3FFF (R121). -/
def loBank (g : GStack) : Nat :=
  match g.cart.type with
  | .romOnly => 0
  | .mbc1 => if g.mbc.mode then (g.mbc.bankHi ++ 0b00000#5).toNat % g.cart.romBanks else 0

/-- The bank in the window 0x4000-0x7FFF (R121). -/
def hiBank (g : GStack) : Nat :=
  match g.cart.type with
  | .romOnly => 1
  | .mbc1 => (g.mbc.bankHi ++ g.mbc.bankLo).toNat % g.cart.romBanks

/-- The offset into `rom` that an address below 0x8000 reads from (R121). -/
def romOffset (g : GStack) (a : Nat) : Nat :=
  if a < 0x4000 then g.loBank * 0x4000 + a else g.hiBank * 0x4000 + (a - 0x4000)

/-- The cartridge RAM is there and enabled (R123). -/
def eramOpen (g : GStack) : Bool := g.cart.ramSize != 0 && g.mbc.ramEnable

/-- The offset into `eram` of bus offset `off` (R123). -/
def eramOffset (g : GStack) (off : Nat) : Nat :=
  ((if g.mbc.mode then g.mbc.bankHi.toNat else 0) * 0x2000 + off) % g.cart.ramSize

/-- The byte of writable storage that an address reaches now, for one of the bus masters: blocked and
disabled storage is not reached (R93, R101, R106, R107, R123). -/
def cellOf (g : GStack) (m : BusMaster) (a : Word) : Option GCell :=
  match gClaim a with
  | .vram off => if m == .cpu && g.vramBlocked then none else some (.vram, off)
  | .oam off => if g.oamBlocked then none else some (.oam, off)
  | .eram off => if g.eramOpen then some (.eram, g.eramOffset off) else none
  | .wram off => some (.wram, off)
  | .hram off => some (.hram, off)
  | _ => none

/-- One byte of writable storage. -/
def peek (g : GStack) (c : GCell) : Byte :=
  match c.1 with
  | .vram => g.mem.vram.read c.2
  | .wram => g.mem.wram.read c.2
  | .oam => g.mem.oam.read c.2
  | .hram => g.mem.hram.read c.2
  | .eram => g.mem.eram.read c.2

/-- One byte of writable storage replaced. -/
def poke (g : GStack) (c : GCell) (v : Byte) : GStack :=
  match c.1 with
  | .vram => { g with mem := { g.mem with vram := g.mem.vram.write c.2 v } }
  | .wram => { g with mem := { g.mem with wram := g.mem.wram.write c.2 v } }
  | .oam => { g with mem := { g.mem with oam := g.mem.oam.write c.2 v } }
  | .hram => { g with mem := { g.mem with hram := g.mem.hram.write c.2 v } }
  | .eram => { g with mem := { g.mem with eram := g.mem.eram.write c.2 v } }

/-- What the external audio unit sees next, put at the head of the list. -/
def portEvent (g : GStack) (e : PortEvent) : GStack := { g with apuPort := e :: g.apuPort }

/-- A bank-select write below 0x8000 (R122). -/
def mbcWrite (g : GStack) (a : Nat) (v : Byte) : GStack :=
  match g.cart.type with
  | .romOnly => g
  | .mbc1 =>
    if a < 0x2000 then { g with mbc := { g.mbc with ramEnable := v.extractLsb' 0 4 == 0xA } }
    else if a < 0x4000 then
      { g with mbc := { g.mbc with
          bankLo := if v.extractLsb' 0 5 = 0 then 1 else v.extractLsb' 0 5 } }
    else if a < 0x6000 then { g with mbc := { g.mbc with bankHi := v.extractLsb' 0 2 } }
    else { g with mbc := { g.mbc with mode := v.getLsbD 0 } }

/-- `Write(0xFF46, v)` (R100). -/
def dmaTrigger (g : GStack) (v : Byte) : GStack :=
  { g with dma := { active := true, src := v, index := 0 } }

/-- A read of an address that reaches no writable storage: ROM, a device register, closed storage (0xFF),
the audio unit, or nothing (R93, R96 to R98, R106, R107, R123). -/
def readRegister (g : GStack) (a : Word) : Byte × GStack :=
  match gClaim a with
  | .rom n => (g.cart.rom.read (g.romOffset n), g)
  | .p1 => (g.joy.read, g)
  | .div => (g.timer.readDiv, g)
  | .tima => (g.timer.tima, g)
  | .tma => (g.timer.tma, g)
  | .tac => (g.timer.readTac, g)
  | .ifReg => (Config.gIfReadOr ||| g.irq.ifReg.zeroExtend 8, g)
  | .apuPort => (Config.apuPortRead g.apuPort a, g.portEvent (.read a))
  | .lcdc => (g.ppu.lcdc, g)
  | .stat => (g.ppu.readStat, g)
  | .scy => (g.ppu.scy, g)
  | .scx => (g.ppu.scx, g)
  | .ly => (g.ppu.ly, g)
  | .lyc => (g.ppu.lyc, g)
  | .dma => (g.dma.src, g)
  | .bgp => (g.ppu.bgp, g)
  | .obp0 => (g.ppu.obp0, g)
  | .obp1 => (g.ppu.obp1, g)
  | .wy => (g.ppu.wy, g)
  | .wx => (g.ppu.wx, g)
  | .ieReg => (Config.gIeReadOr ||| g.irq.ieReg.zeroExtend 8, g)
  | .vram _ | .oam _ | .eram _ => (0xFF, g)
  | .wram _ | .hram _ | .unclaimed => (Config.openBusG, g)

/-- A write of an address that reaches no writable storage (R93, R96 to R98, R100, R106, R107, R122). -/
def writeRegister (g : GStack) (a : Word) (v : Byte) : GStack :=
  match gClaim a with
  | .rom n => g.mbcWrite n v
  | .p1 => { g with joy := { g.joy with select := v.extractLsb' 4 2 } }
  | .div => { g with timer := g.timer.writeDiv }
  | .tima => { g with timer := g.timer.writeTima v }
  | .tma => { g with timer := g.timer.writeTma v }
  | .tac => { g with timer := g.timer.writeTac v }
  | .ifReg => { g with irq := { g.irq with ifReg := v.extractLsb' 0 5 } }
  | .apuPort => g.portEvent (.write a v)
  | .lcdc => { g with ppu := (g.ppu.writeLcdc v g.irq).1, irq := (g.ppu.writeLcdc v g.irq).2 }
  | .stat => { g with ppu := { g.ppu with statSel := v.extractLsb' 3 4 } }
  | .scy => { g with ppu := { g.ppu with scy := v } }
  | .scx => { g with ppu := { g.ppu with scx := v } }
  | .lyc => { g with ppu := { g.ppu with lyc := v } }
  | .dma => g.dmaTrigger v
  | .bgp => { g with ppu := { g.ppu with bgp := v } }
  | .obp0 => { g with ppu := { g.ppu with obp0 := v } }
  | .obp1 => { g with ppu := { g.ppu with obp1 := v } }
  | .wy => { g with ppu := { g.ppu with wy := v } }
  | .wx => { g with ppu := { g.ppu with wx := v } }
  | .ieReg => { g with irq := { g.irq with ieReg := v.extractLsb' 0 5 } }
  | .ly | .vram _ | .oam _ | .eram _ | .wram _ | .hram _ | .unclaimed => g

/-- `Read(a)` of the G-stack bus by a bus master (R70, R101), with its effect on the stack. -/
def readAs (m : BusMaster) (g : GStack) (a : Word) : Byte × GStack :=
  match g.cellOf m a with
  | some c => (g.peek c, g)
  | none => g.readRegister a

/-- `Read(a)` of the G-stack bus by the CPU. -/
def read (g : GStack) (a : Word) : Byte × GStack := readAs .cpu g a

/-- `Write(a, v)` of the G-stack bus (R70). -/
def write (g : GStack) (a : Word) (v : Byte) : GStack :=
  match g.cellOf .cpu a with
  | some c => g.poke c v
  | none => g.writeRegister a v

end GStack

end Sys2Proof.Machine
end

