-- ==== Sys2Proof/Machine/Ops.lean ====
section
/-! DEFINITION. The operations that several instructions share: the hardware stacks, raising a fault, TAKING
AN INTERRUPT on either core and the return from one, the DMA units, the arms 0 to c of `Step`, the fetch
of an instruction, and the peripherals' advance after a `Step` (spec/60_exceptions.md R502 to R536;
spec/20_memory.md R87, R101, R126; spec/40_mos6502_load_store_transfer.md R200, R202;
spec/44_sm83_load8.md R310; spec/45_sm83_load16_stack.md R350). -/

namespace Sys2Proof.Machine

/-- What the arms before (d) of `Step` come to: the `Step` is over, or an instruction is to be executed
(R502). -/
inductive Head (σ : Type) where
  | done (s : σ)
  | execute (s : σ)
  deriving DecidableEq, Repr

/-- The driver's count after a `Step` of `c` cycles; at the end of a frame the overshoot is carried (R126). -/
def FrameDriver.add (budget c : Nat) (f : FrameDriver) : FrameDriver :=
  if budget ≤ f.count + c then { carry := f.count + c - budget, count := f.count + c - budget }
  else { f with count := f.count + c }

/-! ## The N-stack -/

namespace NStack

/-- `raise Fault(kind, info)` (R505): nothing else changes and `Step` returns 0. -/
def raiseFault (n : NStack) (cause : FaultCause) : NStack :=
  { n with
    cpu := { n.cpu with faulted := true, faultInfo := some { cause := cause, pc := n.cpu.pc } }
    cycles := 0 }

/-- The address `0x0100 + s` in the stack page (R202). -/
def stackAddr (s : Byte) : Word := 0x0100 + zext16 s

/-- `Push8(v)` (R202). -/
def push8 (n : NStack) (v : Byte) : NStack :=
  let n1 := n.write (stackAddr n.cpu.s) v
  { n1 with cpu := { n1.cpu with s := n.cpu.s - 1 } }

/-- `Push8(v[15:8]); Push8(v[7:0])`. -/
def pushWord (n : NStack) (v : Word) : NStack := (n.push8 (hiByte v)).push8 (loByte v)

/-- `Pull8()` (R202). -/
def pull8 (n : NStack) : Byte × NStack :=
  let r := n.read (stackAddr (n.cpu.s + 1))
  (r.1, { r.2 with cpu := { r.2.cpu with s := n.cpu.s + 1 } })

/-- `lo <- Pull8(); hi <- Pull8(); {hi, lo}`. -/
def pullWord (n : NStack) : Word × NStack :=
  let lo := n.pull8
  let hi := lo.2.pull8
  (join hi.1 lo.1, hi.2)

/-- A word whose low byte stands at `lo` and whose high byte stands at `hi`, the low byte read first. -/
def readPair (n : NStack) (lo hi : Word) : Word × NStack :=
  let l := n.read lo
  let h := l.2.read hi
  (join h.1 l.1, h.2)

/-- TAKING AN INTERRUPT on the M6502, the one operation behind NMI (R520), IRQ (R521) and BRK (R274): the
return address, high byte first, then `PackP(b)` are pushed, `I` is set, and `PC` is read from the vector,
low byte first. `D` is not changed. -/
def enterInterrupt (n : NStack) (ret : Word) (b : Bool) (vector : Word) : NStack :=
  let n1 := (n.pushWord ret).push8 (n.cpu.p.pack b)
  let v := { n1 with cpu := { n1.cpu with p := { n1.cpu.p with i := true } } }.readPair vector (vector + 1)
  { v.2 with cpu := { v.2.cpu with pc := v.1 } }

/-- The return from an M6502 interrupt (R523, R273): the flags, then `PC`, with nothing added. -/
def returnFromInterrupt (n : NStack) : NStack :=
  let p := n.pull8
  let pc := { p.2 with cpu := { p.2.cpu with p := M6502Flags.unpack p.1 } }.pullWord
  { pc.2 with cpu := { pc.2.cpu with pc := pc.1 } }

/-- The NMI vector (R515). -/
def nmiVector : Word := 0xFFFA
/-- The reset vector (R515). -/
def resetVector : Word := 0xFFFC
/-- The vector of IRQ and BRK (R515). -/
def irqVector : Word := 0xFFFE

/-- NMI service (R520). -/
def serviceNmi (n : NStack) : NStack :=
  let n1 := n.enterInterrupt n.cpu.pc false nmiVector
  { n1 with cpu := { n1.cpu with nmiPending := false }, cycles := Config.mIntCycles }

/-- IRQ service (R521). -/
def serviceIrq (n : NStack) : NStack :=
  let n1 := n.enterInterrupt n.cpu.pc false irqVector
  { n1 with cycles := Config.mIntCycles }

/-- The N-stack OAM DMA unit (R87): through the bus, and to register 4 of the picture unit. -/
def dmaUnit (n : NStack) : NStack :=
  let r := n.read (join n.dma.page (BitVec.ofNat 8 n.dma.index))
  let n1 := r.2.write 0x2004 r.1
  { n1 with
    dma := { n1.dma with
      index := n1.dma.index + 1
      active := if n1.dma.index + 1 = Config.mDmaUnits then false else n1.dma.active }
    cycles := Config.mDmaUnitCycles }

/-- The DMA arm (R87): an index at or past the unit count is the consistency fault. -/
def dmaArm (n : NStack) : NStack :=
  if Config.mDmaUnits ≤ n.dma.index then n.raiseFault .consistencyDma else n.dmaUnit

/-- The arms before (d) of the M6502's `Step` (R502). -/
def stepHead (n : NStack) : Head NStack :=
  if n.cpu.faulted then .done { n with cycles := 0 }
  else if n.cpu.nmiPending then .done n.serviceNmi
  else if n.cpu.irqLine && !n.cpu.p.i then .done n.serviceIrq
  else if n.dma.active then .done n.dmaArm
  else .execute n

/-- A byte of the instruction stream, read only if the format has it (R141). -/
def fetchIf (n : NStack) (c : Bool) (a : Word) : Byte × NStack := if c then n.read a else (0, n)

/-- Steps (1) to (3) of R200: the opcode byte and the operand bytes its format has, in address order. -/
def fetch (n : NStack) : Instr × NStack :=
  let op := n.read n.cpu.pc
  let b1 := op.2.fetchIf (decide (2 ≤ (m6502Row op.1).len)) (n.cpu.pc + 1)
  let b2 := b1.2.fetchIf (decide (3 ≤ (m6502Row op.1).len)) (n.cpu.pc + 2)
  (decodeM6502 op.1 b1.1 b2.1, b2.2)

/-- The external picture unit is advanced by `c` cycles and may set `nmi_pending` (R126, R620). -/
def advance (n : NStack) (c : Nat) : NStack :=
  let n1 := n.portEvent (.advance c)
  { n1 with cpu := { n1.cpu with nmiPending := n1.cpu.nmiPending || Config.ppuPortNmi n1.ppuPort } }

/-- The rest of the driver's loop after a `Step` (R126); a fault ends the frame at once. -/
def finishStep (n : NStack) : NStack :=
  if n.cpu.faulted then n
  else
    let n1 := n.advance n.cycles
    { n1 with frame := n1.frame.add (Config.frameBudget .nStack) n1.cycles }

end NStack

/-! ## The G-stack -/

namespace GStack

/-- `raise Fault(kind, info)` (R505): nothing else changes and `Step` returns 0. -/
def raiseFault (g : GStack) (cause : FaultCause) : GStack :=
  { g with
    cpu := { g.cpu with faulted := true, faultInfo := some { cause := cause, pc := g.cpu.pc } }
    cycles := 0 }

/-- `Push16(v)` (R350). -/
def push16 (g : GStack) (v : Word) : GStack :=
  let g1 := g.write (g.cpu.sp - 1) (hiByte v)
  let g2 := g1.write (g.cpu.sp - 2) (loByte v)
  { g2 with cpu := { g2.cpu with sp := g.cpu.sp - 2 } }

/-- `Pop16()` (R350). -/
def pop16 (g : GStack) : Word × GStack :=
  let lo := g.read g.cpu.sp
  let hi := lo.2.read (g.cpu.sp + 1)
  (join hi.1 lo.1, { hi.2 with cpu := { hi.2.cpu with sp := g.cpu.sp + 2 } })

/-- The index of the lowest set bit of a non-zero `pending` (R526). -/
def lowestBit (p : BitVec 5) : Nat :=
  if p.getLsbD 0 then 0
  else if p.getLsbD 1 then 1
  else if p.getLsbD 2 then 2
  else if p.getLsbD 3 then 3
  else 4

/-- The address of interrupt `k` (R526). -/
def vectorOf (k : Nat) : Word := 0x0040 + 8 * BitVec.ofNat 16 k

/-- TAKING AN INTERRUPT on the SM83 (R528): the lowest pending request is cleared, `IME` and its delay are
cleared, the core runs, `PC` is pushed and goes to the vector. -/
def serviceInterrupt (g : GStack) : GStack :=
  let k := lowestBit g.irq.pending
  let g1 := { g with
    irq := { g.irq with ifReg := g.irq.ifReg &&& ~~~(1#5 <<< k) }
    cpu := { g.cpu with ime := false, imeDelay := 0, halted := false, stopped := false } }
  let g2 := g1.push16 g.cpu.pc
  { g2 with cpu := { g2.cpu with pc := vectorOf k }, cycles := Config.gIntCycles }

/-- The return from an SM83 interrupt (R529, R440). -/
def returnFromInterrupt (g : GStack) : GStack :=
  let r := g.pop16
  { r.2 with cpu := { r.2.cpu with pc := r.1, ime := true, imeDelay := 0 } }

/-- A stalled `Step` (R502, R503). -/
def stall (g : GStack) : GStack := { g with cycles := Config.gHaltStall }

/-- The wake condition of the stopped state (R535). -/
def stopWakes (g : GStack) : Bool :=
  match Config.gStopWake with
  | .joypadIrq => g.irq.ifReg.getLsbD IrqBit.joypad.index
  | .never => false

/-- The G-stack OAM DMA unit (R101): the source read by the DMA engine, the store straight into `oam`. -/
def dmaUnit (g : GStack) : GStack :=
  let r := readAs .dma g (join g.dma.src (BitVec.ofNat 8 g.dma.index))
  let g1 := r.2.poke (.oam, g.dma.index) r.1
  { g1 with
    dma := { g1.dma with
      index := g1.dma.index + 1
      active := if g1.dma.index + 1 = Config.gDmaUnits then false else g1.dma.active }
    cycles := Config.gDmaUnitCycles }

/-- The DMA arm (R101): an index at or past the unit count is the consistency fault. -/
def dmaArm (g : GStack) : GStack :=
  if Config.gDmaUnits ≤ g.dma.index then g.raiseFault .consistencyDma else g.dmaUnit

/-- The halted state released (R533); the stopped state is tested next (R502). -/
def releaseHalt (g : GStack) : GStack := { g with cpu := { g.cpu with halted := false } }
/-- The stopped state released (R535). -/
def releaseStop (g : GStack) : GStack := { g with cpu := { g.cpu with stopped := false } }

/-- The arms before (d) of the SM83's `Step` (R502). DEDUCED (assumption log 22): a release of `halted` or `stopped`
in arm (b) stands, as R502 orders it, even if the instruction of arm (d) then faults. -/
def stepHead (g : GStack) : Head GStack :=
  if g.cpu.faulted then .done { g with cycles := 0 }
  else if g.cpu.ime && g.irq.pending != 0 then .done g.serviceInterrupt
  else if g.cpu.halted && g.irq.pending == 0 then .done g.stall
  else if g.cpu.stopped && !g.stopWakes then .done g.releaseHalt.stall
  else if g.dma.active then .done g.releaseHalt.releaseStop.dmaArm
  else .execute g.releaseHalt.releaseStop

/-- A byte of the instruction stream, read only if the format has it (R141). -/
def fetchIf (g : GStack) (c : Bool) (a : Word) : Byte × GStack := if c then g.read a else (0, g)

/-- Steps (1) and (3) of R310: the opcode byte and the bytes after it that its format has, in address
order; after 0xCB the second byte selects the instruction. -/
def fetch (g : GStack) : Instr × GStack :=
  let op := g.read g.cpu.pc
  let b1 := op.2.fetchIf (decide (2 ≤ (sm83Row op.1).len)) (g.cpu.pc + 1)
  let b2 := b1.2.fetchIf (decide (3 ≤ (sm83Row op.1).len)) (g.cpu.pc + 2)
  (decodeSm83 op.1 b1.1 b2.1, b2.2)

/-- Step (6) of R310: the interrupt-enable delay (R35). -/
def tickIme (g : GStack) : GStack :=
  if g.cpu.imeDelay = 0 then g
  else if g.cpu.imeDelay = 1 then { g with cpu := { g.cpu with imeDelay := 0, ime := true } }
  else { g with cpu := { g.cpu with imeDelay := g.cpu.imeDelay - 1 } }

/-- Step (4) of R310 with the instruction's cost: `PC` at the next instruction before the Operation. -/
def start (len cost : Nat) (g : GStack) : GStack :=
  { g with cpu := { g.cpu with pc := g.cpu.pc + BitVec.ofNat 16 len }, cycles := cost }

/-- Steps (4) to (7) of R310 around an Operation: `len` bytes, `cost` cycles. -/
def instr (len cost : Nat) (operation : GStack → GStack) (g : GStack) : GStack :=
  (operation (g.start len cost)).tickIme

/-- The peripherals advanced by `c` cycles: Timer, PPU, APU, in this order (R126). -/
def advance (g : GStack) (c : Nat) : GStack :=
  let t := g.timer.advance c g.irq
  let p := g.ppu.advance g.mem.vram g.mem.oam c t.2
  { g with timer := t.1, ppu := p.1, irq := p.2 }.portEvent (.advance c)

/-- The rest of the driver's loop after a `Step` (R126); a fault ends the frame at once. -/
def finishStep (g : GStack) : GStack :=
  if g.cpu.faulted then g
  else
    let g1 := g.advance g.cycles
    { g1 with frame := g1.frame.add (Config.frameBudget .gStack) g1.cycles }

end GStack

/-! ## The session -/

namespace State

/-- An instruction of the M6502 that ends in a next state. -/
def onN (s : State) (f : NStack → NStack) : Host.Outcome State Fault Refusal :=
  .next { s with n := f s.n }

/-- An instruction of the SM83 that ends in a next state. -/
def onG (s : State) (f : GStack → GStack) : Host.Outcome State Fault Refusal :=
  .next { s with g := f s.g }

/-- The arms before (d) of the `Step` of the session's stack (R502). -/
def stepHead (s : State) : Head State :=
  match s.stack with
  | .nStack =>
    match s.n.stepHead with
    | .done n => .done { s with n := n }
    | .execute n => .execute { s with n := n }
  | .gStack =>
    match s.g.stepHead with
    | .done g => .done { s with g := g }
    | .execute g => .execute { s with g := g }

/-- The fetch of the session's core (R200, R310). -/
def fetch (s : State) : Instr × State :=
  match s.stack with
  | .nStack => (s.n.fetch.1, { s with n := s.n.fetch.2 })
  | .gStack => (s.g.fetch.1, { s with g := s.g.fetch.2 })

/-- The rest of the driver's loop after a `Step` of the session's core (R126). -/
def finishStep (s : State) : State :=
  match s.stack with
  | .nStack => { s with n := s.n.finishStep }
  | .gStack => { s with g := s.g.finishStep }

/-- The fault test of the frame driver (R126, R505). -/
def faulted (s : State) : Bool :=
  match s.stack with
  | .nStack => s.n.cpu.faulted
  | .gStack => s.g.cpu.faulted

end State

/-! ## Placing an instruction where the next `Step` fetches it -/

/-- `place` done on consecutive addresses. -/
def placeBytes {σ : Type} (place : σ → Word → Byte → Option σ) : σ → Word → List Byte → Option σ
  | s, _, [] => some s
  | s, a, b :: bs =>
    match place s a b with
    | some s1 => placeBytes place s1 (a + 1) bs
    | none => none

namespace NStack

/-- A byte put into the memory, ROM included, that a fetch at `a` reads; none where a device or nothing
answers. -/
def placeByte (n : NStack) (a : Word) (v : Byte) : Option NStack :=
  match nClaim a with
  | .mapper off =>
    some { n with cart := { n.cart with prgRom := n.cart.prgRom.write (n.cart.romOffset n.prgBank off) v } }
  | _ =>
    match n.cellOf a with
    | some c => some (n.poke c v)
    | none => none

/-- The stack with nothing in the way of an instruction: not faulted, no request to service, no DMA. -/
def ready (n : NStack) : NStack :=
  { n with
    cpu := { n.cpu with
      faulted := false
      faultInfo := if n.cpu.faulted then none else n.cpu.faultInfo
      nmiPending := false
      irqLine := n.cpu.irqLine && n.cpu.p.i }
    dma := { n.dma with active := false } }

/-- The bytes put where the next `Step` fetches; where the bytes at `PC` are no memory, `PC` moves to
0x0200. -/
def placeCode (n : NStack) (bs : List Byte) : NStack :=
  let n := n.ready
  match placeBytes placeByte n n.cpu.pc bs with
  | some n1 => n1
  | none =>
    let n1 := { n with cpu := { n.cpu with pc := 0x0200 } }
    (placeBytes placeByte n1 0x0200 bs).getD n1

end NStack

namespace GStack

/-- A byte put into the memory, ROM included, that a fetch at `a` reads; none where a device or nothing
answers. -/
def placeByte (g : GStack) (a : Word) (v : Byte) : Option GStack :=
  match gClaim a with
  | .rom k => some { g with cart := { g.cart with rom := g.cart.rom.write (g.romOffset k) v } }
  | _ =>
    match g.cellOf .cpu a with
    | some c => some (g.poke c v)
    | none => none

/-- The stack with nothing in the way of an instruction: not faulted, halted or stopped, no request to
service, no DMA. -/
def ready (g : GStack) : GStack :=
  { g with
    cpu := { g.cpu with
      faulted := false
      faultInfo := if g.cpu.faulted then none else g.cpu.faultInfo
      halted := false
      stopped := false }
    irq := if g.cpu.ime then { g.irq with ifReg := g.irq.ifReg &&& ~~~g.irq.ieReg } else g.irq
    dma := { g.dma with active := false } }

/-- The bytes put where the next `Step` fetches; where the bytes at `PC` are no memory, `PC` moves to
0xC000. -/
def placeCode (g : GStack) (bs : List Byte) : GStack :=
  let g := g.ready
  match placeBytes placeByte g g.cpu.pc bs with
  | some g1 => g1
  | none =>
    let g1 := { g with cpu := { g.cpu with pc := 0xC000 } }
    (placeBytes placeByte g1 0xC000 bs).getD g1

end GStack

/-- The bytes put where the next `Step` of the session's core fetches. -/
def State.placeCode (s : State) (bs : List Byte) : State :=
  match s.stack with
  | .nStack => { s with n := s.n.placeCode bs }
  | .gStack => { s with g := s.g.placeCode bs }

end Sys2Proof.Machine
end

