-- ==== Sys2Proof/Machine/Operands.lean ====
section
/-! DEFINITION. Every operand form: the M6502 addressing modes with their page-cross flag and their cycle
costs (spec/30_encoding.md R142 to R156), and the SM83 operand accessors (R162 to R167; spec/44_sm83_load8.md
R311). -/

namespace Sys2Proof.Machine

/-! ## The M6502 -/

/-- The effective address of an operand, whether the index sum crossed a page, and the stack after the
pointer reads of the indirect modes (R145 to R154). -/
structure Resolved where
  ea : Word
  crossed : Bool
  after : NStack
  deriving DecidableEq, Repr

/-- An operand byte, whether the mode crossed a page, and the stack after its reads. -/
structure Fetched where
  value : Byte
  crossed : Bool
  after : NStack
  deriving DecidableEq, Repr

/-- `base[15:8] != ea[15:8]` (R150). -/
def pageCrossed (base ea : Word) : Bool := hiByte base != hiByte ea

namespace NStack

/-- A pointer in page zero whose second byte wraps within the page (R153, R154). -/
def zeroPagePointer (n : NStack) (p : Byte) : Word × NStack :=
  n.readPair (zext16 p) (zext16 (p + 1))

/-- The pointer of JMP indirect: its second byte stays in the page of the first (R152). -/
def pagePointer (n : NStack) (ptr : Word) : Word × NStack :=
  n.readPair ptr (join (hiByte ptr) (loByte ptr + 1))

/-- The address a mode computes (R145 to R151, R153, R154). -/
def resolve (n : NStack) : Operand → Resolved
  | .imm _ => ⟨n.cpu.pc + 1, false, n⟩
  | .zp d => ⟨zext16 d, false, n⟩
  | .zpx d => ⟨zext16 (d + n.cpu.x), false, n⟩
  | .zpy d => ⟨zext16 (d + n.cpu.y), false, n⟩
  | .abs a => ⟨a, false, n⟩
  | .abx a => ⟨a + zext16 n.cpu.x, pageCrossed a (a + zext16 n.cpu.x), n⟩
  | .aby a => ⟨a + zext16 n.cpu.y, pageCrossed a (a + zext16 n.cpu.y), n⟩
  | .izx d =>
    let p := n.zeroPagePointer (d + n.cpu.x)
    ⟨p.1, false, p.2⟩
  | .izy d =>
    let p := n.zeroPagePointer d
    ⟨p.1 + zext16 n.cpu.y, pageCrossed p.1 (p.1 + zext16 n.cpu.y), p.2⟩

/-- The operand byte: the immediate, which the fetch has read (R145), or one read of `ea`. -/
def readOperand (n : NStack) : Operand → Fetched
  | .imm d => ⟨d, false, n⟩
  | o =>
    let r := n.resolve o
    let v := r.after.read r.ea
    ⟨v.1, r.crossed, v.2⟩

end NStack

/-- The base cost of a read instruction by mode; a crossed page adds one (R156, R203 to R205, R233 to R241). -/
def readCycles : Mode → Nat
  | .imm => 2
  | .zp => 3
  | .zpx | .zpy | .abs | .abx | .aby => 4
  | .izy => 5
  | .izx => 6

/-- The cost of a store by mode (R206 to R208); R145 gives no immediate store. -/
def storeCycles : Mode → Nat
  | .imm => 2
  | .zp => 3
  | .zpx | .zpy | .abs => 4
  | .abx | .aby => 5
  | .izx | .izy => 6

/-- The cost of a read-modify-write instruction by mode (R242, R243, R248 to R251); the modes that have
no such instruction never decode. -/
def rmwCycles : Mode → Nat
  | .imm => 2
  | .zp => 5
  | .zpx | .zpy | .abs => 6
  | .abx | .aby => 7
  | .izx | .izy => 7

namespace NStack

/-- `PC <- npc` and the cycle count (R200 steps 4 to 6). -/
def next (len cost : Nat) (n : NStack) : NStack :=
  { n with cpu := { n.cpu with pc := n.cpu.pc + BitVec.ofNat 16 len }, cycles := cost }

/-- An instruction that reads one operand byte and works on the registers. -/
def readInstr (o : Operand) (f : Byte → M6502 → M6502) (n : NStack) : NStack :=
  let r := n.readOperand o
  { r.after with cpu := f r.value r.after.cpu }.next o.length (readCycles o.mode + b2n r.crossed)

/-- An instruction that stores a register; `ea` is not read (R206). -/
def storeInstr (o : Operand) (v : M6502 → Byte) (n : NStack) : NStack :=
  let r := n.resolve o
  (r.after.write r.ea (v n.cpu)).next o.length (storeCycles o.mode)

/-- A read-modify-write instruction: one read and one write of `ea` (R232). `f` gives the result and the
flags. -/
def rmwInstr (o : Operand) (f : M6502Flags → Byte → Byte × M6502Flags) (n : NStack) : NStack :=
  let r := n.resolve o
  let m := r.after.read r.ea
  let res := f n.cpu.p m.1
  let n1 := m.2.write r.ea res.1
  { n1 with cpu := { n1.cpu with p := res.2 } }.next o.length (rmwCycles o.mode)

/-- A one-byte instruction that works on the registers alone. -/
def impliedInstr (cost : Nat) (f : M6502 → M6502) (n : NStack) : NStack :=
  { n with cpu := f n.cpu }.next 1 cost

end NStack

/-! ## The SM83 -/

namespace Sm83

/-- `BC = {B, C}` (R30). -/
def bc (r : Sm83) : Word := join r.b r.c
/-- `DE = {D, E}`. -/
def de (r : Sm83) : Word := join r.d r.e
/-- `HL = {H, L}`. -/
def hl (r : Sm83) : Word := join r.h r.l
/-- `AF = {A, F}`. -/
def af (r : Sm83) : Word := join r.a r.f.toByte

/-- `BC` written. -/
def setBc (r : Sm83) (v : Word) : Sm83 := { r with b := hiByte v, c := loByte v }
/-- `DE` written. -/
def setDe (r : Sm83) (v : Word) : Sm83 := { r with d := hiByte v, e := loByte v }
/-- `HL` written. -/
def setHl (r : Sm83) (v : Word) : Sm83 := { r with h := hiByte v, l := loByte v }
/-- `AF` written: the low nibble is discarded (R311). -/
def setAf (r : Sm83) (v : Word) : Sm83 := { r with a := hiByte v, f := Sm83Flags.ofByte (loByte v) }

/-- `Get16(r16[i])` (R166, R311). -/
def get16 (r : Sm83) : R16 → Word
  | .bc => r.bc
  | .de => r.de
  | .hl => r.hl
  | .sp => r.sp

/-- `Set16(r16[i], v)`. -/
def set16 (r : Sm83) (v : Word) : R16 → Sm83
  | .bc => r.setBc v
  | .de => r.setDe v
  | .hl => r.setHl v
  | .sp => { r with sp := v }

/-- `Get16(r16stk[i])` (R167, R311). -/
def get16Stk (r : Sm83) : R16Stk → Word
  | .bc => r.bc
  | .de => r.de
  | .hl => r.hl
  | .af => r.af

/-- `Set16(r16stk[i], v)`. -/
def set16Stk (r : Sm83) (v : Word) : R16Stk → Sm83
  | .bc => r.setBc v
  | .de => r.setDe v
  | .hl => r.setHl v
  | .af => r.setAf v

/-- The register that an `r8` field names; `(HL)` names none. -/
def reg8 (r : Sm83) : R8 → Option Byte
  | .b => some r.b
  | .c => some r.c
  | .d => some r.d
  | .e => some r.e
  | .h => some r.h
  | .l => some r.l
  | .a => some r.a
  | .mHL => none

/-- The register that an `r8` field names written; `(HL)` names none. -/
def setReg8 (r : Sm83) (v : Byte) : R8 → Sm83
  | .b => { r with b := v }
  | .c => { r with c := v }
  | .d => { r with d := v }
  | .e => { r with e := v }
  | .h => { r with h := v }
  | .l => { r with l := v }
  | .a => { r with a := v }
  | .mHL => r

end Sm83

namespace GStack

/-- The registers replaced by a function of them. -/
def mapCpu (g : GStack) (f : Sm83 → Sm83) : GStack := { g with cpu := f g.cpu }

/-- `Get8(r)`: a register, or a read at `HL` (R311). -/
def get8 (g : GStack) (r : R8) : Byte × GStack :=
  match g.cpu.reg8 r with
  | some v => (v, g)
  | none => g.read g.cpu.hl

/-- `Set8(r, v)`: a register, or a write at `HL` (R311). -/
def set8 (g : GStack) (r : R8) (v : Byte) : GStack :=
  match r with
  | .mHL => g.write g.cpu.hl v
  | r => g.mapCpu (·.setReg8 v r)

/-- The address of `r16mem[i]` (R166). -/
def memAddr (g : GStack) : R16Mem → Word
  | .bc => g.cpu.bc
  | .de => g.cpu.de
  | .hlInc | .hlDec => g.cpu.hl

/-- The change of `HL` after the use of `r16mem[i]` (R166, R327 to R330). -/
def memStep (g : GStack) : R16Mem → GStack
  | .bc | .de => g
  | .hlInc => g.mapCpu fun r => r.setHl (r.hl + 1)
  | .hlDec => g.mapCpu fun r => r.setHl (r.hl - 1)

/-- The high-page address `0xFF00 + zext(v)` (R160). -/
def highPage (v : Byte) : Word := 0xFF00 + zext16 v

end GStack

end Sys2Proof.Machine
end

