-- ==== Sys2Proof/Machine/M6502Load.lean ====
section
/-! DEFINITION. M6502 loads, stores, transfers and stack instructions
(spec/40_mos6502_load_store_transfer.md R203 to R218). -/

namespace Sys2Proof.Machine

namespace M6502

/-- `A <- v; SetNZ(A)`. -/
def loadA (v : Byte) (r : M6502) : M6502 := { r with a := v, p := r.p.setNZ v }
/-- `X <- v; SetNZ(X)`. -/
def loadX (v : Byte) (r : M6502) : M6502 := { r with x := v, p := r.p.setNZ v }
/-- `Y <- v; SetNZ(Y)`. -/
def loadY (v : Byte) (r : M6502) : M6502 := { r with y := v, p := r.p.setNZ v }

end M6502

/-- LDA (R203). -/
def execLda (o : Operand) (s : State) : Host.Outcome State Fault Refusal :=
  s.onN (NStack.readInstr o M6502.loadA)

/-- LDX (R204). -/
def execLdx (o : Operand) (s : State) : Host.Outcome State Fault Refusal :=
  s.onN (NStack.readInstr o M6502.loadX)

/-- LDY (R205). -/
def execLdy (o : Operand) (s : State) : Host.Outcome State Fault Refusal :=
  s.onN (NStack.readInstr o M6502.loadY)

/-- STA (R206). -/
def execSta (o : Operand) (s : State) : Host.Outcome State Fault Refusal :=
  s.onN (NStack.storeInstr o M6502.a)

/-- STX (R207). -/
def execStx (o : Operand) (s : State) : Host.Outcome State Fault Refusal :=
  s.onN (NStack.storeInstr o M6502.x)

/-- STY (R208). -/
def execSty (o : Operand) (s : State) : Host.Outcome State Fault Refusal :=
  s.onN (NStack.storeInstr o M6502.y)

/-- TAX (R209). -/
def execTax (s : State) : Host.Outcome State Fault Refusal :=
  s.onN (NStack.impliedInstr 2 fun r => M6502.loadX r.a r)

/-- TAY (R210). -/
def execTay (s : State) : Host.Outcome State Fault Refusal :=
  s.onN (NStack.impliedInstr 2 fun r => M6502.loadY r.a r)

/-- TXA (R211). -/
def execTxa (s : State) : Host.Outcome State Fault Refusal :=
  s.onN (NStack.impliedInstr 2 fun r => M6502.loadA r.x r)

/-- TYA (R212). -/
def execTya (s : State) : Host.Outcome State Fault Refusal :=
  s.onN (NStack.impliedInstr 2 fun r => M6502.loadA r.y r)

/-- TSX (R213). -/
def execTsx (s : State) : Host.Outcome State Fault Refusal :=
  s.onN (NStack.impliedInstr 2 fun r => M6502.loadX r.s r)

/-- TXS: the one transfer that writes no flag (R214). -/
def execTxs (s : State) : Host.Outcome State Fault Refusal :=
  s.onN (NStack.impliedInstr 2 fun r => { r with s := r.x })

/-- PHA (R215). -/
def execPha (s : State) : Host.Outcome State Fault Refusal :=
  s.onN fun n => (n.push8 n.cpu.a).next 1 3

/-- PHP: the flags with bits 5 and 4 set (R216). -/
def execPhp (s : State) : Host.Outcome State Fault Refusal :=
  s.onN fun n => (n.push8 (n.cpu.p.pack true)).next 1 3

/-- PLA (R217). -/
def execPla (s : State) : Host.Outcome State Fault Refusal :=
  s.onN fun n => { n.pull8.2 with cpu := M6502.loadA n.pull8.1 n.pull8.2.cpu }.next 1 4

/-- PLP (R218). -/
def execPlp (s : State) : Host.Outcome State Fault Refusal :=
  s.onN fun n =>
    { n.pull8.2 with cpu := { n.pull8.2.cpu with p := M6502Flags.unpack n.pull8.1 } }.next 1 4

end Sys2Proof.Machine
end

