-- ==== Sys2Proof/Machine/M6502Alu.lean ====
section
/-! DEFINITION. M6502 arithmetic, logic, compare, increment and shift instructions
(spec/41_mos6502_alu.md R230 to R251). -/

namespace Sys2Proof.Machine

namespace M6502

/-- `AddCore(m)` (R230). -/
def addCore (m : Byte) (r : M6502) : M6502 :=
  { r with a := r.p.addResult r.a m, p := r.p.addFlags r.a m }

end M6502

/-- The result and flags of INC and DEC on memory (R242, R243). -/
def countOp (step : Byte) (p : M6502Flags) (m : Byte) : Byte × M6502Flags :=
  (m + step, p.setNZ (m + step))

/-- The result and flags of a shift or rotate whose result and carry are `res` (R248 to R251). -/
def shiftFlags (p : M6502Flags) (res : Byte × Bool) : Byte × M6502Flags :=
  (res.1, { p with c := res.2 }.setNZ res.1)

/-- ASL on a byte with the flags before (R248). -/
def aslOp (p : M6502Flags) (m : Byte) : Byte × M6502Flags := shiftFlags p (asl8 m)
/-- LSR (R249). -/
def lsrOp (p : M6502Flags) (m : Byte) : Byte × M6502Flags := shiftFlags p (lsr8 m)
/-- ROL with the old carry (R250). -/
def rolOp (p : M6502Flags) (m : Byte) : Byte × M6502Flags := shiftFlags p (rol8 p.c m)
/-- ROR with the old carry (R251). -/
def rorOp (p : M6502Flags) (m : Byte) : Byte × M6502Flags := shiftFlags p (ror8 p.c m)

/-- A shift or rotate of `A` (2 cycles, R144) or of a byte of memory (R232). -/
def NStack.shiftInstr (f : M6502Flags → Byte → Byte × M6502Flags) : ShiftOperand → NStack → NStack
  | .acc => NStack.impliedInstr 2 fun r => { r with a := (f r.p r.a).1, p := (f r.p r.a).2 }
  | .mem o => NStack.rmwInstr o f

/-- ADC (R233). -/
def execAdc (o : Operand) (s : State) : Host.Outcome State Fault Refusal :=
  s.onN (NStack.readInstr o M6502.addCore)

/-- SBC: `AddCore(m xor 0xFF)` (R234). -/
def execSbc (o : Operand) (s : State) : Host.Outcome State Fault Refusal :=
  s.onN (NStack.readInstr o fun m => M6502.addCore (m ^^^ 0xFF))

/-- AND (R235). -/
def execAnd (o : Operand) (s : State) : Host.Outcome State Fault Refusal :=
  s.onN (NStack.readInstr o fun m r => M6502.loadA (r.a &&& m) r)

/-- ORA (R236). -/
def execOra (o : Operand) (s : State) : Host.Outcome State Fault Refusal :=
  s.onN (NStack.readInstr o fun m r => M6502.loadA (r.a ||| m) r)

/-- EOR (R237). -/
def execEor (o : Operand) (s : State) : Host.Outcome State Fault Refusal :=
  s.onN (NStack.readInstr o fun m r => M6502.loadA (r.a ^^^ m) r)

/-- CMP (R238). -/
def execCmp (o : Operand) (s : State) : Host.Outcome State Fault Refusal :=
  s.onN (NStack.readInstr o fun m r => { r with p := r.p.compare r.a m })

/-- CPX (R239). -/
def execCpx (o : Operand) (s : State) : Host.Outcome State Fault Refusal :=
  s.onN (NStack.readInstr o fun m r => { r with p := r.p.compare r.x m })

/-- CPY (R240). -/
def execCpy (o : Operand) (s : State) : Host.Outcome State Fault Refusal :=
  s.onN (NStack.readInstr o fun m r => { r with p := r.p.compare r.y m })

/-- BIT (R241). -/
def execBit (o : Operand) (s : State) : Host.Outcome State Fault Refusal :=
  s.onN (NStack.readInstr o fun m r => { r with p := r.p.bitTest r.a m })

/-- INC (R242). -/
def execInc (o : Operand) (s : State) : Host.Outcome State Fault Refusal :=
  s.onN (NStack.rmwInstr o (countOp 1))

/-- DEC (R243). -/
def execDec (o : Operand) (s : State) : Host.Outcome State Fault Refusal :=
  s.onN (NStack.rmwInstr o (countOp (-1)))

/-- INX (R244). -/
def execInx (s : State) : Host.Outcome State Fault Refusal :=
  s.onN (NStack.impliedInstr 2 fun r => M6502.loadX (r.x + 1) r)

/-- INY (R245). -/
def execIny (s : State) : Host.Outcome State Fault Refusal :=
  s.onN (NStack.impliedInstr 2 fun r => M6502.loadY (r.y + 1) r)

/-- DEX (R246). -/
def execDex (s : State) : Host.Outcome State Fault Refusal :=
  s.onN (NStack.impliedInstr 2 fun r => M6502.loadX (r.x - 1) r)

/-- DEY (R247). -/
def execDey (s : State) : Host.Outcome State Fault Refusal :=
  s.onN (NStack.impliedInstr 2 fun r => M6502.loadY (r.y - 1) r)

/-- ASL (R248). -/
def execAsl (o : ShiftOperand) (s : State) : Host.Outcome State Fault Refusal :=
  s.onN (NStack.shiftInstr aslOp o)

/-- LSR (R249). -/
def execLsr (o : ShiftOperand) (s : State) : Host.Outcome State Fault Refusal :=
  s.onN (NStack.shiftInstr lsrOp o)

/-- ROL (R250). -/
def execRol (o : ShiftOperand) (s : State) : Host.Outcome State Fault Refusal :=
  s.onN (NStack.shiftInstr rolOp o)

/-- ROR (R251). -/
def execRor (o : ShiftOperand) (s : State) : Host.Outcome State Fault Refusal :=
  s.onN (NStack.shiftInstr rorOp o)

end Sys2Proof.Machine
end

