-- ==== Sys2Proof/Machine/M6502Control.lean ====
section
/-! DEFINITION. M6502 branches, jumps, subroutines, BRK and flag instructions
(spec/42_mos6502_control_flags.md R260 to R282). -/

namespace Sys2Proof.Machine

/-- `Branch(cond)` (R260, R155): 2 cycles, 3 if taken, 4 if the target is in another page than the next
instruction. -/
def NStack.branch (cond : M6502Flags → Bool) (rel8 : Byte) (n : NStack) : NStack :=
  let npc := n.cpu.pc + 2
  let target := npc + sext16 rel8
  if cond n.cpu.p then
    { n with cpu := { n.cpu with pc := target }, cycles := if pageCrossed npc target then 4 else 3 }
  else { n with cpu := { n.cpu with pc := npc }, cycles := 2 }

/-- `PC` and the cycle count of a control transfer. -/
def NStack.jump (n : NStack) (target : Word) (cost : Nat) : NStack :=
  { n with cpu := { n.cpu with pc := target }, cycles := cost }

/-- BCC: `C = 0` (R261). -/
def execBcc (rel8 : Byte) (s : State) : Host.Outcome State Fault Refusal :=
  s.onN (NStack.branch (fun p => !p.c) rel8)

/-- BCS: `C = 1` (R262). -/
def execBcs (rel8 : Byte) (s : State) : Host.Outcome State Fault Refusal :=
  s.onN (NStack.branch (fun p => p.c) rel8)

/-- BEQ: `Z = 1` (R263). -/
def execBeq (rel8 : Byte) (s : State) : Host.Outcome State Fault Refusal :=
  s.onN (NStack.branch (fun p => p.z) rel8)

/-- BNE: `Z = 0` (R264). -/
def execBne (rel8 : Byte) (s : State) : Host.Outcome State Fault Refusal :=
  s.onN (NStack.branch (fun p => !p.z) rel8)

/-- BMI: `N = 1` (R265). -/
def execBmi (rel8 : Byte) (s : State) : Host.Outcome State Fault Refusal :=
  s.onN (NStack.branch (fun p => p.n) rel8)

/-- BPL: `N = 0` (R266). -/
def execBpl (rel8 : Byte) (s : State) : Host.Outcome State Fault Refusal :=
  s.onN (NStack.branch (fun p => !p.n) rel8)

/-- BVC: `V = 0` (R267). -/
def execBvc (rel8 : Byte) (s : State) : Host.Outcome State Fault Refusal :=
  s.onN (NStack.branch (fun p => !p.v) rel8)

/-- BVS: `V = 1` (R268). -/
def execBvs (rel8 : Byte) (s : State) : Host.Outcome State Fault Refusal :=
  s.onN (NStack.branch (fun p => p.v) rel8)

/-- JMP absolute (R269) and indirect, whose pointer keeps its page (R270). -/
def execJmp (o : JumpOperand) (s : State) : Host.Outcome State Fault Refusal :=
  s.onN fun n =>
    match o with
    | .abs a => n.jump a 3
    | .ind ptr => (n.pagePointer ptr).2.jump (n.pagePointer ptr).1 5

/-- JSR: the address of the instruction's last byte is pushed (R271). -/
def execJsr (a16 : Word) (s : State) : Host.Outcome State Fault Refusal :=
  s.onN fun n => (n.pushWord (n.cpu.pc + 2)).jump a16 6

/-- RTS: the pulled address plus 1 (R272). -/
def execRts (s : State) : Host.Outcome State Fault Refusal :=
  s.onN fun n => n.pullWord.2.jump (n.pullWord.1 + 1) 6

/-- RTI (R273). -/
def execRti (s : State) : Host.Outcome State Fault Refusal :=
  s.onN fun n => { n.returnFromInterrupt with cycles := 6 }

/-- BRK takes the software interrupt: `PC + 2` and the flags with B = 1 (R274). -/
def execBrk (s : State) : Host.Outcome State Fault Refusal :=
  s.onN fun n => { n.enterInterrupt (n.cpu.pc + 2) true NStack.irqVector with cycles := 7 }

/-- CLC (R275). -/
def execClc (s : State) : Host.Outcome State Fault Refusal :=
  s.onN (NStack.impliedInstr 2 fun r => { r with p := { r.p with c := false } })

/-- SEC (R276). -/
def execSec (s : State) : Host.Outcome State Fault Refusal :=
  s.onN (NStack.impliedInstr 2 fun r => { r with p := { r.p with c := true } })

/-- CLI (R277). -/
def execCli (s : State) : Host.Outcome State Fault Refusal :=
  s.onN (NStack.impliedInstr 2 fun r => { r with p := { r.p with i := false } })

/-- SEI (R278). -/
def execSei (s : State) : Host.Outcome State Fault Refusal :=
  s.onN (NStack.impliedInstr 2 fun r => { r with p := { r.p with i := true } })

/-- CLD (R279). -/
def execCld (s : State) : Host.Outcome State Fault Refusal :=
  s.onN (NStack.impliedInstr 2 fun r => { r with p := { r.p with d := false } })

/-- SED (R280). -/
def execSed (s : State) : Host.Outcome State Fault Refusal :=
  s.onN (NStack.impliedInstr 2 fun r => { r with p := { r.p with d := true } })

/-- CLV (R281). -/
def execClv (s : State) : Host.Outcome State Fault Refusal :=
  s.onN (NStack.impliedInstr 2 fun r => { r with p := { r.p with v := false } })

/-- NOP (R282). -/
def execNop_6502 (s : State) : Host.Outcome State Fault Refusal :=
  s.onN (NStack.impliedInstr 2 fun r => r)

end Sys2Proof.Machine
end

