-- ==== Sys2Proof/Machine/M6502Undoc.lean ====
section
/-! DEFINITION. M6502 undocumented opcodes (spec/43_mos6502_undocumented.md R300 to R302). -/

namespace Sys2Proof.Machine

/-- ILL raises the machine's fault `IllegalOpcode`: `PC` stays at the opcode and nothing else changes (R300,
R505). -/
def execIll (op : Byte) (s : State) : Host.Outcome State Fault Refusal :=
  s.onN fun n => n.raiseFault (.illegalOpcode op)

end Sys2Proof.Machine
end

