-- ==== Sys2Proof/Machine/Sm83Load8.lean ====
section
/-! DEFINITION. SM83 8-bit loads (spec/44_sm83_load8.md R312 to R330). -/

namespace Sys2Proof.Machine

namespace GStack

/-- LD r,r' (R312). -/
def ldRR (dst src : R8) : GStack → GStack :=
  instr 1 4 fun g => (g.get8 src).2.set8 dst (g.get8 src).1

/-- LD r,d8 (R313). -/
def ldRD8 (dst : R8) (v : Byte) : GStack → GStack := instr 2 8 fun g => g.set8 dst v

/-- LD r,(HL): the address is the old `HL` (R314). -/
def ldRMem (dst : R8) : GStack → GStack :=
  instr 1 8 fun g => (g.read g.cpu.hl).2.set8 dst (g.read g.cpu.hl).1

/-- LD (HL),r (R315). -/
def ldMemR (src : R8) : GStack → GStack :=
  instr 1 8 fun g => (g.get8 src).2.write g.cpu.hl (g.get8 src).1

/-- LD (HL),d8 (R316). -/
def ldMemD8 (v : Byte) : GStack → GStack := instr 2 12 fun g => g.write g.cpu.hl v

/-- `A <- MemRead(a, 1)`. -/
def loadA (g : GStack) (a : Word) : GStack := (g.read a).2.set8 .a (g.read a).1

/-- LD A,(BC), LD A,(DE), LD A,(HL+), LD A,(HL-) (R317, R318, R328, R330). -/
def ldAMem (m : R16Mem) : GStack → GStack := instr 1 8 fun g => (g.loadA (g.memAddr m)).memStep m

/-- LD (BC),A, LD (DE),A, LD (HL+),A, LD (HL-),A (R319, R320, R327, R329). -/
def ldMemA (m : R16Mem) : GStack → GStack :=
  instr 1 8 fun g => (g.write (g.memAddr m) g.cpu.a).memStep m

/-- A load of `A` from a given address: LD A,(a16), LDH A,(a8), LD A,(C) (R321, R323, R325). -/
def ldAAddr (len cost : Nat) (a : GStack → Word) : GStack → GStack := instr len cost fun g => g.loadA (a g)

/-- A store of `A` to a given address: LD (a16),A, LDH (a8),A, LD (C),A (R322, R324, R326). -/
def ldAddrA (len cost : Nat) (a : GStack → Word) : GStack → GStack :=
  instr len cost fun g => g.write (a g) g.cpu.a

end GStack

/-- LD (BC),A (R319). -/
def execLd_mBC_A (s : State) : Host.Outcome State Fault Refusal :=
  s.onG (GStack.ldMemA .bc)
/-- LD B,d8 (R313). -/
def execLd_B_d8 (d8 : Byte) (s : State) : Host.Outcome State Fault Refusal :=
  s.onG (GStack.ldRD8 .b d8)
/-- LD A,(BC) (R317). -/
def execLd_A_mBC (s : State) : Host.Outcome State Fault Refusal :=
  s.onG (GStack.ldAMem .bc)
/-- LD C,d8 (R313). -/
def execLd_C_d8 (d8 : Byte) (s : State) : Host.Outcome State Fault Refusal :=
  s.onG (GStack.ldRD8 .c d8)
/-- LD (DE),A (R320). -/
def execLd_mDE_A (s : State) : Host.Outcome State Fault Refusal :=
  s.onG (GStack.ldMemA .de)
/-- LD D,d8 (R313). -/
def execLd_D_d8 (d8 : Byte) (s : State) : Host.Outcome State Fault Refusal :=
  s.onG (GStack.ldRD8 .d d8)
/-- LD A,(DE) (R318). -/
def execLd_A_mDE (s : State) : Host.Outcome State Fault Refusal :=
  s.onG (GStack.ldAMem .de)
/-- LD E,d8 (R313). -/
def execLd_E_d8 (d8 : Byte) (s : State) : Host.Outcome State Fault Refusal :=
  s.onG (GStack.ldRD8 .e d8)
/-- LD (HL+),A (R327). -/
def execLd_mHLinc_A (s : State) : Host.Outcome State Fault Refusal :=
  s.onG (GStack.ldMemA .hlInc)
/-- LD H,d8 (R313). -/
def execLd_H_d8 (d8 : Byte) (s : State) : Host.Outcome State Fault Refusal :=
  s.onG (GStack.ldRD8 .h d8)
/-- LD A,(HL+) (R328). -/
def execLd_A_mHLinc (s : State) : Host.Outcome State Fault Refusal :=
  s.onG (GStack.ldAMem .hlInc)
/-- LD L,d8 (R313). -/
def execLd_L_d8 (d8 : Byte) (s : State) : Host.Outcome State Fault Refusal :=
  s.onG (GStack.ldRD8 .l d8)
/-- LD (HL-),A (R329). -/
def execLd_mHLdec_A (s : State) : Host.Outcome State Fault Refusal :=
  s.onG (GStack.ldMemA .hlDec)
/-- LD (HL),d8 (R316). -/
def execLd_mHL_d8 (d8 : Byte) (s : State) : Host.Outcome State Fault Refusal :=
  s.onG (GStack.ldMemD8 d8)
/-- LD A,(HL-) (R330). -/
def execLd_A_mHLdec (s : State) : Host.Outcome State Fault Refusal :=
  s.onG (GStack.ldAMem .hlDec)
/-- LD A,d8 (R313). -/
def execLd_A_d8 (d8 : Byte) (s : State) : Host.Outcome State Fault Refusal :=
  s.onG (GStack.ldRD8 .a d8)
/-- LD B,B (R312). -/
def execLd_B_B (s : State) : Host.Outcome State Fault Refusal :=
  s.onG (GStack.ldRR .b .b)
/-- LD B,C (R312). -/
def execLd_B_C (s : State) : Host.Outcome State Fault Refusal :=
  s.onG (GStack.ldRR .b .c)
/-- LD B,D (R312). -/
def execLd_B_D (s : State) : Host.Outcome State Fault Refusal :=
  s.onG (GStack.ldRR .b .d)
/-- LD B,E (R312). -/
def execLd_B_E (s : State) : Host.Outcome State Fault Refusal :=
  s.onG (GStack.ldRR .b .e)
/-- LD B,H (R312). -/
def execLd_B_H (s : State) : Host.Outcome State Fault Refusal :=
  s.onG (GStack.ldRR .b .h)
/-- LD B,L (R312). -/
def execLd_B_L (s : State) : Host.Outcome State Fault Refusal :=
  s.onG (GStack.ldRR .b .l)
/-- LD B,(HL) (R314). -/
def execLd_B_mHL (s : State) : Host.Outcome State Fault Refusal :=
  s.onG (GStack.ldRMem .b)
/-- LD B,A (R312). -/
def execLd_B_A (s : State) : Host.Outcome State Fault Refusal :=
  s.onG (GStack.ldRR .b .a)
/-- LD C,B (R312). -/
def execLd_C_B (s : State) : Host.Outcome State Fault Refusal :=
  s.onG (GStack.ldRR .c .b)
/-- LD C,C (R312). -/
def execLd_C_C (s : State) : Host.Outcome State Fault Refusal :=
  s.onG (GStack.ldRR .c .c)
/-- LD C,D (R312). -/
def execLd_C_D (s : State) : Host.Outcome State Fault Refusal :=
  s.onG (GStack.ldRR .c .d)
/-- LD C,E (R312). -/
def execLd_C_E (s : State) : Host.Outcome State Fault Refusal :=
  s.onG (GStack.ldRR .c .e)
/-- LD C,H (R312). -/
def execLd_C_H (s : State) : Host.Outcome State Fault Refusal :=
  s.onG (GStack.ldRR .c .h)
/-- LD C,L (R312). -/
def execLd_C_L (s : State) : Host.Outcome State Fault Refusal :=
  s.onG (GStack.ldRR .c .l)
/-- LD C,(HL) (R314). -/
def execLd_C_mHL (s : State) : Host.Outcome State Fault Refusal :=
  s.onG (GStack.ldRMem .c)
/-- LD C,A (R312). -/
def execLd_C_A (s : State) : Host.Outcome State Fault Refusal :=
  s.onG (GStack.ldRR .c .a)
/-- LD D,B (R312). -/
def execLd_D_B (s : State) : Host.Outcome State Fault Refusal :=
  s.onG (GStack.ldRR .d .b)
/-- LD D,C (R312). -/
def execLd_D_C (s : State) : Host.Outcome State Fault Refusal :=
  s.onG (GStack.ldRR .d .c)
/-- LD D,D (R312). -/
def execLd_D_D (s : State) : Host.Outcome State Fault Refusal :=
  s.onG (GStack.ldRR .d .d)
/-- LD D,E (R312). -/
def execLd_D_E (s : State) : Host.Outcome State Fault Refusal :=
  s.onG (GStack.ldRR .d .e)
/-- LD D,H (R312). -/
def execLd_D_H (s : State) : Host.Outcome State Fault Refusal :=
  s.onG (GStack.ldRR .d .h)
/-- LD D,L (R312). -/
def execLd_D_L (s : State) : Host.Outcome State Fault Refusal :=
  s.onG (GStack.ldRR .d .l)
/-- LD D,(HL) (R314). -/
def execLd_D_mHL (s : State) : Host.Outcome State Fault Refusal :=
  s.onG (GStack.ldRMem .d)
/-- LD D,A (R312). -/
def execLd_D_A (s : State) : Host.Outcome State Fault Refusal :=
  s.onG (GStack.ldRR .d .a)
/-- LD E,B (R312). -/
def execLd_E_B (s : State) : Host.Outcome State Fault Refusal :=
  s.onG (GStack.ldRR .e .b)
/-- LD E,C (R312). -/
def execLd_E_C (s : State) : Host.Outcome State Fault Refusal :=
  s.onG (GStack.ldRR .e .c)
/-- LD E,D (R312). -/
def execLd_E_D (s : State) : Host.Outcome State Fault Refusal :=
  s.onG (GStack.ldRR .e .d)
/-- LD E,E (R312). -/
def execLd_E_E (s : State) : Host.Outcome State Fault Refusal :=
  s.onG (GStack.ldRR .e .e)
/-- LD E,H (R312). -/
def execLd_E_H (s : State) : Host.Outcome State Fault Refusal :=
  s.onG (GStack.ldRR .e .h)
/-- LD E,L (R312). -/
def execLd_E_L (s : State) : Host.Outcome State Fault Refusal :=
  s.onG (GStack.ldRR .e .l)
/-- LD E,(HL) (R314). -/
def execLd_E_mHL (s : State) : Host.Outcome State Fault Refusal :=
  s.onG (GStack.ldRMem .e)
/-- LD E,A (R312). -/
def execLd_E_A (s : State) : Host.Outcome State Fault Refusal :=
  s.onG (GStack.ldRR .e .a)
/-- LD H,B (R312). -/
def execLd_H_B (s : State) : Host.Outcome State Fault Refusal :=
  s.onG (GStack.ldRR .h .b)
/-- LD H,C (R312). -/
def execLd_H_C (s : State) : Host.Outcome State Fault Refusal :=
  s.onG (GStack.ldRR .h .c)
/-- LD H,D (R312). -/
def execLd_H_D (s : State) : Host.Outcome State Fault Refusal :=
  s.onG (GStack.ldRR .h .d)
/-- LD H,E (R312). -/
def execLd_H_E (s : State) : Host.Outcome State Fault Refusal :=
  s.onG (GStack.ldRR .h .e)
/-- LD H,H (R312). -/
def execLd_H_H (s : State) : Host.Outcome State Fault Refusal :=
  s.onG (GStack.ldRR .h .h)
/-- LD H,L (R312). -/
def execLd_H_L (s : State) : Host.Outcome State Fault Refusal :=
  s.onG (GStack.ldRR .h .l)
/-- LD H,(HL) (R314). -/
def execLd_H_mHL (s : State) : Host.Outcome State Fault Refusal :=
  s.onG (GStack.ldRMem .h)
/-- LD H,A (R312). -/
def execLd_H_A (s : State) : Host.Outcome State Fault Refusal :=
  s.onG (GStack.ldRR .h .a)
/-- LD L,B (R312). -/
def execLd_L_B (s : State) : Host.Outcome State Fault Refusal :=
  s.onG (GStack.ldRR .l .b)
/-- LD L,C (R312). -/
def execLd_L_C (s : State) : Host.Outcome State Fault Refusal :=
  s.onG (GStack.ldRR .l .c)
/-- LD L,D (R312). -/
def execLd_L_D (s : State) : Host.Outcome State Fault Refusal :=
  s.onG (GStack.ldRR .l .d)
/-- LD L,E (R312). -/
def execLd_L_E (s : State) : Host.Outcome State Fault Refusal :=
  s.onG (GStack.ldRR .l .e)
/-- LD L,H (R312). -/
def execLd_L_H (s : State) : Host.Outcome State Fault Refusal :=
  s.onG (GStack.ldRR .l .h)
/-- LD L,L (R312). -/
def execLd_L_L (s : State) : Host.Outcome State Fault Refusal :=
  s.onG (GStack.ldRR .l .l)
/-- LD L,(HL) (R314). -/
def execLd_L_mHL (s : State) : Host.Outcome State Fault Refusal :=
  s.onG (GStack.ldRMem .l)
/-- LD L,A (R312). -/
def execLd_L_A (s : State) : Host.Outcome State Fault Refusal :=
  s.onG (GStack.ldRR .l .a)
/-- LD (HL),B (R315). -/
def execLd_mHL_B (s : State) : Host.Outcome State Fault Refusal :=
  s.onG (GStack.ldMemR .b)
/-- LD (HL),C (R315). -/
def execLd_mHL_C (s : State) : Host.Outcome State Fault Refusal :=
  s.onG (GStack.ldMemR .c)
/-- LD (HL),D (R315). -/
def execLd_mHL_D (s : State) : Host.Outcome State Fault Refusal :=
  s.onG (GStack.ldMemR .d)
/-- LD (HL),E (R315). -/
def execLd_mHL_E (s : State) : Host.Outcome State Fault Refusal :=
  s.onG (GStack.ldMemR .e)
/-- LD (HL),H (R315). -/
def execLd_mHL_H (s : State) : Host.Outcome State Fault Refusal :=
  s.onG (GStack.ldMemR .h)
/-- LD (HL),L (R315). -/
def execLd_mHL_L (s : State) : Host.Outcome State Fault Refusal :=
  s.onG (GStack.ldMemR .l)
/-- LD (HL),A (R315). -/
def execLd_mHL_A (s : State) : Host.Outcome State Fault Refusal :=
  s.onG (GStack.ldMemR .a)
/-- LD A,B (R312). -/
def execLd_A_B (s : State) : Host.Outcome State Fault Refusal :=
  s.onG (GStack.ldRR .a .b)
/-- LD A,C (R312). -/
def execLd_A_C (s : State) : Host.Outcome State Fault Refusal :=
  s.onG (GStack.ldRR .a .c)
/-- LD A,D (R312). -/
def execLd_A_D (s : State) : Host.Outcome State Fault Refusal :=
  s.onG (GStack.ldRR .a .d)
/-- LD A,E (R312). -/
def execLd_A_E (s : State) : Host.Outcome State Fault Refusal :=
  s.onG (GStack.ldRR .a .e)
/-- LD A,H (R312). -/
def execLd_A_H (s : State) : Host.Outcome State Fault Refusal :=
  s.onG (GStack.ldRR .a .h)
/-- LD A,L (R312). -/
def execLd_A_L (s : State) : Host.Outcome State Fault Refusal :=
  s.onG (GStack.ldRR .a .l)
/-- LD A,(HL) (R314). -/
def execLd_A_mHL (s : State) : Host.Outcome State Fault Refusal :=
  s.onG (GStack.ldRMem .a)
/-- LD A,A (R312). -/
def execLd_A_A (s : State) : Host.Outcome State Fault Refusal :=
  s.onG (GStack.ldRR .a .a)
/-- LDH (a8),A (R324). -/
def execLdh_ma8_A (a8 : Byte) (s : State) : Host.Outcome State Fault Refusal :=
  s.onG (GStack.ldAddrA 2 12 fun _ => GStack.highPage a8)
/-- LD (C),A (R326). -/
def execLd_mC_A (s : State) : Host.Outcome State Fault Refusal :=
  s.onG (GStack.ldAddrA 1 8 fun g => GStack.highPage g.cpu.c)
/-- LD (a16),A (R322). -/
def execLd_ma16_A (a16 : Word) (s : State) : Host.Outcome State Fault Refusal :=
  s.onG (GStack.ldAddrA 3 16 fun _ => a16)
/-- LDH A,(a8) (R323). -/
def execLdh_A_ma8 (a8 : Byte) (s : State) : Host.Outcome State Fault Refusal :=
  s.onG (GStack.ldAAddr 2 12 fun _ => GStack.highPage a8)
/-- LD A,(C) (R325). -/
def execLd_A_mC (s : State) : Host.Outcome State Fault Refusal :=
  s.onG (GStack.ldAAddr 1 8 fun g => GStack.highPage g.cpu.c)
/-- LD A,(a16) (R321). -/
def execLd_A_ma16 (a16 : Word) (s : State) : Host.Outcome State Fault Refusal :=
  s.onG (GStack.ldAAddr 3 16 fun _ => a16)

end Sys2Proof.Machine
end

