-- ==== Sys2Proof/Machine/Sm83Load16.lean ====
section
/-! DEFINITION. SM83 16-bit loads and stack instructions (spec/45_sm83_load16_stack.md R351 to R356). -/

namespace Sys2Proof.Machine

namespace GStack

/-- LD rr,d16 (R351). -/
def ldRrD16 (rr : R16) (v : Word) : GStack → GStack := instr 3 12 fun g => g.mapCpu (·.set16 v rr)

/-- LD (a16),SP: the low byte first (R352). -/
def ldAddrSp (a : Word) : GStack → GStack :=
  instr 3 20 fun g => (g.write a (loByte g.cpu.sp)).write (a + 1) (hiByte g.cpu.sp)

/-- LD SP,HL (R353). -/
def ldSpHl : GStack → GStack := instr 1 8 fun g => g.mapCpu fun r => { r with sp := r.hl }

/-- LD HL,SP+r8 (R354). -/
def ldHlSp (b1 : Byte) : GStack → GStack :=
  instr 2 12 fun g => g.mapCpu fun r => { r.setHl (addSp r.sp b1).1 with f := (addSp r.sp b1).2 }

/-- PUSH rr (R355). -/
def push (rr : R16Stk) : GStack → GStack := instr 1 16 fun g => g.push16 (g.cpu.get16Stk rr)

/-- POP rr (R356). -/
def pop (rr : R16Stk) : GStack → GStack :=
  instr 1 12 fun g => g.pop16.2.mapCpu (·.set16Stk g.pop16.1 rr)

end GStack

/-- LD BC,d16 (R351). -/
def execLd_BC_d16 (d16 : Word) (s : State) : Host.Outcome State Fault Refusal :=
  s.onG (GStack.ldRrD16 .bc d16)
/-- LD (a16),SP (R352). -/
def execLd_ma16_SP (a16 : Word) (s : State) : Host.Outcome State Fault Refusal :=
  s.onG (GStack.ldAddrSp a16)
/-- LD DE,d16 (R351). -/
def execLd_DE_d16 (d16 : Word) (s : State) : Host.Outcome State Fault Refusal :=
  s.onG (GStack.ldRrD16 .de d16)
/-- LD HL,d16 (R351). -/
def execLd_HL_d16 (d16 : Word) (s : State) : Host.Outcome State Fault Refusal :=
  s.onG (GStack.ldRrD16 .hl d16)
/-- LD SP,d16 (R351). -/
def execLd_SP_d16 (d16 : Word) (s : State) : Host.Outcome State Fault Refusal :=
  s.onG (GStack.ldRrD16 .sp d16)
/-- POP BC (R356). -/
def execPop_BC (s : State) : Host.Outcome State Fault Refusal :=
  s.onG (GStack.pop .bc)
/-- PUSH BC (R355). -/
def execPush_BC (s : State) : Host.Outcome State Fault Refusal :=
  s.onG (GStack.push .bc)
/-- POP DE (R356). -/
def execPop_DE (s : State) : Host.Outcome State Fault Refusal :=
  s.onG (GStack.pop .de)
/-- PUSH DE (R355). -/
def execPush_DE (s : State) : Host.Outcome State Fault Refusal :=
  s.onG (GStack.push .de)
/-- POP HL (R356). -/
def execPop_HL (s : State) : Host.Outcome State Fault Refusal :=
  s.onG (GStack.pop .hl)
/-- PUSH HL (R355). -/
def execPush_HL (s : State) : Host.Outcome State Fault Refusal :=
  s.onG (GStack.push .hl)
/-- POP AF (R356). -/
def execPop_AF (s : State) : Host.Outcome State Fault Refusal :=
  s.onG (GStack.pop .af)
/-- PUSH AF (R355). -/
def execPush_AF (s : State) : Host.Outcome State Fault Refusal :=
  s.onG (GStack.push .af)
/-- LD HL,SP+r8 (R354). -/
def execLd_HL_SPr8 (r8 : Byte) (s : State) : Host.Outcome State Fault Refusal :=
  s.onG (GStack.ldHlSp r8)
/-- LD SP,HL (R353). -/
def execLd_SP_HL (s : State) : Host.Outcome State Fault Refusal :=
  s.onG GStack.ldSpHl

end Sys2Proof.Machine
end

