-- ==== Sys2Proof/Machine/Sm83Alu.lean ====
section
/-! DEFINITION. SM83 arithmetic and logic instructions (spec/46_sm83_alu.md R370 to R413). -/

namespace Sys2Proof.Machine

namespace GStack

/-- `alu[y]` of `A` and `m` (R370). -/
def aluA (op : AluOp) (g : GStack) (m : Byte) : GStack :=
  g.mapCpu fun r => { r with a := (aluOp op r.f r.a m).1, f := (aluOp op r.f r.a m).2 }

/-- `alu[y] A,r8[z]`: 4 cycles, 8 with `(HL)` (R370). -/
def aluR (op : AluOp) (r : R8) : GStack → GStack :=
  instr 1 (if r = .mHL then 8 else 4) fun g => (g.get8 r).2.aluA op (g.get8 r).1

/-- `alu[y] A,d8` (R370). -/
def aluD8 (op : AluOp) (v : Byte) : GStack → GStack := instr 2 8 fun g => g.aluA op v

/-- The operand of INC, DEC or an entry of the second table read, and the result and flags written. -/
def modify8 (r : R8) (op : Sm83Flags → Byte → Byte × Sm83Flags) (g : GStack) : GStack :=
  let v := g.get8 r
  let res := op g.cpu.f v.1
  (v.2.set8 r res.1).mapCpu fun c => { c with f := res.2 }

/-- INC r (R379), INC (HL) (R380). -/
def incR (r : R8) : GStack → GStack := instr 1 (if r = .mHL then 12 else 4) (modify8 r inc8)

/-- DEC r (R381), DEC (HL) (R382). -/
def decR (r : R8) : GStack → GStack := instr 1 (if r = .mHL then 12 else 4) (modify8 r dec8)

/-- A 4-cycle instruction of one byte on the registers alone. -/
def onRegs (f : Sm83 → Sm83) : GStack → GStack := instr 1 4 fun g => g.mapCpu f

/-- RLCA, RLA, RRCA, RRA: a rotate of `A` that clears `Z` (R387 to R390). -/
def rotA (op : RotOp) : GStack → GStack :=
  onRegs fun r => { r with a := (rotOp op r.f.c r.a).1, f := rotAFlags (rotOp op r.f.c r.a).2 }

/-- ADD HL,rr (R410). -/
def addHlRr (rr : R16) : GStack → GStack :=
  instr 1 8 fun g => g.mapCpu fun r =>
    { r.setHl (addHl r.f r.hl (r.get16 rr)).1 with f := (addHl r.f r.hl (r.get16 rr)).2 }

/-- INC rr (R411). -/
def incRr (rr : R16) : GStack → GStack := instr 1 8 fun g => g.mapCpu fun r => r.set16 (r.get16 rr + 1) rr

/-- DEC rr (R412). -/
def decRr (rr : R16) : GStack → GStack := instr 1 8 fun g => g.mapCpu fun r => r.set16 (r.get16 rr - 1) rr

/-- ADD SP,r8 (R413). -/
def addSpR8 (b1 : Byte) : GStack → GStack :=
  instr 2 16 fun g => g.mapCpu fun r => { r with sp := (addSp r.sp b1).1, f := (addSp r.sp b1).2 }

end GStack

/-- INC BC (R411). -/
def execInc_BC (s : State) : Host.Outcome State Fault Refusal :=
  s.onG (GStack.incRr .bc)
/-- INC B (R379). -/
def execInc_B (s : State) : Host.Outcome State Fault Refusal :=
  s.onG (GStack.incR .b)
/-- DEC B (R381). -/
def execDec_B (s : State) : Host.Outcome State Fault Refusal :=
  s.onG (GStack.decR .b)
/-- RLCA (R387). -/
def execRlca (s : State) : Host.Outcome State Fault Refusal :=
  s.onG (GStack.rotA .rlc)
/-- ADD HL,BC (R410). -/
def execAdd_HL_BC (s : State) : Host.Outcome State Fault Refusal :=
  s.onG (GStack.addHlRr .bc)
/-- DEC BC (R412). -/
def execDec_BC (s : State) : Host.Outcome State Fault Refusal :=
  s.onG (GStack.decRr .bc)
/-- INC C (R379). -/
def execInc_C (s : State) : Host.Outcome State Fault Refusal :=
  s.onG (GStack.incR .c)
/-- DEC C (R381). -/
def execDec_C (s : State) : Host.Outcome State Fault Refusal :=
  s.onG (GStack.decR .c)
/-- RRCA (R389). -/
def execRrca (s : State) : Host.Outcome State Fault Refusal :=
  s.onG (GStack.rotA .rrc)
/-- INC DE (R411). -/
def execInc_DE (s : State) : Host.Outcome State Fault Refusal :=
  s.onG (GStack.incRr .de)
/-- INC D (R379). -/
def execInc_D (s : State) : Host.Outcome State Fault Refusal :=
  s.onG (GStack.incR .d)
/-- DEC D (R381). -/
def execDec_D (s : State) : Host.Outcome State Fault Refusal :=
  s.onG (GStack.decR .d)
/-- RLA (R388). -/
def execRla (s : State) : Host.Outcome State Fault Refusal :=
  s.onG (GStack.rotA .rl)
/-- ADD HL,DE (R410). -/
def execAdd_HL_DE (s : State) : Host.Outcome State Fault Refusal :=
  s.onG (GStack.addHlRr .de)
/-- DEC DE (R412). -/
def execDec_DE (s : State) : Host.Outcome State Fault Refusal :=
  s.onG (GStack.decRr .de)
/-- INC E (R379). -/
def execInc_E (s : State) : Host.Outcome State Fault Refusal :=
  s.onG (GStack.incR .e)
/-- DEC E (R381). -/
def execDec_E (s : State) : Host.Outcome State Fault Refusal :=
  s.onG (GStack.decR .e)
/-- RRA (R390). -/
def execRra (s : State) : Host.Outcome State Fault Refusal :=
  s.onG (GStack.rotA .rr)
/-- INC HL (R411). -/
def execInc_HL (s : State) : Host.Outcome State Fault Refusal :=
  s.onG (GStack.incRr .hl)
/-- INC H (R379). -/
def execInc_H (s : State) : Host.Outcome State Fault Refusal :=
  s.onG (GStack.incR .h)
/-- DEC H (R381). -/
def execDec_H (s : State) : Host.Outcome State Fault Refusal :=
  s.onG (GStack.decR .h)
/-- DAA (R383). -/
def execDaa (s : State) : Host.Outcome State Fault Refusal :=
  s.onG (GStack.onRegs fun r => { r with a := (daa r.f r.a).1, f := (daa r.f r.a).2 })
/-- ADD HL,HL (R410). -/
def execAdd_HL_HL (s : State) : Host.Outcome State Fault Refusal :=
  s.onG (GStack.addHlRr .hl)
/-- DEC HL (R412). -/
def execDec_HL (s : State) : Host.Outcome State Fault Refusal :=
  s.onG (GStack.decRr .hl)
/-- INC L (R379). -/
def execInc_L (s : State) : Host.Outcome State Fault Refusal :=
  s.onG (GStack.incR .l)
/-- DEC L (R381). -/
def execDec_L (s : State) : Host.Outcome State Fault Refusal :=
  s.onG (GStack.decR .l)
/-- CPL (R384). -/
def execCpl (s : State) : Host.Outcome State Fault Refusal :=
  s.onG (GStack.onRegs fun r => { r with a := r.a ^^^ 0xFF, f := { r.f with n := true, h := true } })
/-- INC SP (R411). -/
def execInc_SP (s : State) : Host.Outcome State Fault Refusal :=
  s.onG (GStack.incRr .sp)
/-- INC (HL) (R380). -/
def execInc_mHL (s : State) : Host.Outcome State Fault Refusal :=
  s.onG (GStack.incR .mHL)
/-- DEC (HL) (R382). -/
def execDec_mHL (s : State) : Host.Outcome State Fault Refusal :=
  s.onG (GStack.decR .mHL)
/-- SCF (R385). -/
def execScf (s : State) : Host.Outcome State Fault Refusal :=
  s.onG (GStack.onRegs fun r => { r with f := { r.f with n := false, h := false, c := true } })
/-- ADD HL,SP (R410). -/
def execAdd_HL_SP (s : State) : Host.Outcome State Fault Refusal :=
  s.onG (GStack.addHlRr .sp)
/-- DEC SP (R412). -/
def execDec_SP (s : State) : Host.Outcome State Fault Refusal :=
  s.onG (GStack.decRr .sp)
/-- INC A (R379). -/
def execInc_A (s : State) : Host.Outcome State Fault Refusal :=
  s.onG (GStack.incR .a)
/-- DEC A (R381). -/
def execDec_A (s : State) : Host.Outcome State Fault Refusal :=
  s.onG (GStack.decR .a)
/-- CCF (R386). -/
def execCcf (s : State) : Host.Outcome State Fault Refusal :=
  s.onG (GStack.onRegs fun r => { r with f := { r.f with n := false, h := false, c := !r.f.c } })
/-- ADD A,B (R371). -/
def execAdd_A_B (s : State) : Host.Outcome State Fault Refusal :=
  s.onG (GStack.aluR .add .b)
/-- ADD A,C (R371). -/
def execAdd_A_C (s : State) : Host.Outcome State Fault Refusal :=
  s.onG (GStack.aluR .add .c)
/-- ADD A,D (R371). -/
def execAdd_A_D (s : State) : Host.Outcome State Fault Refusal :=
  s.onG (GStack.aluR .add .d)
/-- ADD A,E (R371). -/
def execAdd_A_E (s : State) : Host.Outcome State Fault Refusal :=
  s.onG (GStack.aluR .add .e)
/-- ADD A,H (R371). -/
def execAdd_A_H (s : State) : Host.Outcome State Fault Refusal :=
  s.onG (GStack.aluR .add .h)
/-- ADD A,L (R371). -/
def execAdd_A_L (s : State) : Host.Outcome State Fault Refusal :=
  s.onG (GStack.aluR .add .l)
/-- ADD A,(HL) (R371). -/
def execAdd_A_mHL (s : State) : Host.Outcome State Fault Refusal :=
  s.onG (GStack.aluR .add .mHL)
/-- ADD A,A (R371). -/
def execAdd_A_A (s : State) : Host.Outcome State Fault Refusal :=
  s.onG (GStack.aluR .add .a)
/-- ADC A,B (R372). -/
def execAdc_A_B (s : State) : Host.Outcome State Fault Refusal :=
  s.onG (GStack.aluR .adc .b)
/-- ADC A,C (R372). -/
def execAdc_A_C (s : State) : Host.Outcome State Fault Refusal :=
  s.onG (GStack.aluR .adc .c)
/-- ADC A,D (R372). -/
def execAdc_A_D (s : State) : Host.Outcome State Fault Refusal :=
  s.onG (GStack.aluR .adc .d)
/-- ADC A,E (R372). -/
def execAdc_A_E (s : State) : Host.Outcome State Fault Refusal :=
  s.onG (GStack.aluR .adc .e)
/-- ADC A,H (R372). -/
def execAdc_A_H (s : State) : Host.Outcome State Fault Refusal :=
  s.onG (GStack.aluR .adc .h)
/-- ADC A,L (R372). -/
def execAdc_A_L (s : State) : Host.Outcome State Fault Refusal :=
  s.onG (GStack.aluR .adc .l)
/-- ADC A,(HL) (R372). -/
def execAdc_A_mHL (s : State) : Host.Outcome State Fault Refusal :=
  s.onG (GStack.aluR .adc .mHL)
/-- ADC A,A (R372). -/
def execAdc_A_A (s : State) : Host.Outcome State Fault Refusal :=
  s.onG (GStack.aluR .adc .a)
/-- SUB B (R373). -/
def execSub_B (s : State) : Host.Outcome State Fault Refusal :=
  s.onG (GStack.aluR .sub .b)
/-- SUB C (R373). -/
def execSub_C (s : State) : Host.Outcome State Fault Refusal :=
  s.onG (GStack.aluR .sub .c)
/-- SUB D (R373). -/
def execSub_D (s : State) : Host.Outcome State Fault Refusal :=
  s.onG (GStack.aluR .sub .d)
/-- SUB E (R373). -/
def execSub_E (s : State) : Host.Outcome State Fault Refusal :=
  s.onG (GStack.aluR .sub .e)
/-- SUB H (R373). -/
def execSub_H (s : State) : Host.Outcome State Fault Refusal :=
  s.onG (GStack.aluR .sub .h)
/-- SUB L (R373). -/
def execSub_L (s : State) : Host.Outcome State Fault Refusal :=
  s.onG (GStack.aluR .sub .l)
/-- SUB (HL) (R373). -/
def execSub_mHL (s : State) : Host.Outcome State Fault Refusal :=
  s.onG (GStack.aluR .sub .mHL)
/-- SUB A (R373). -/
def execSub_A (s : State) : Host.Outcome State Fault Refusal :=
  s.onG (GStack.aluR .sub .a)
/-- SBC A,B (R374). -/
def execSbc_A_B (s : State) : Host.Outcome State Fault Refusal :=
  s.onG (GStack.aluR .sbc .b)
/-- SBC A,C (R374). -/
def execSbc_A_C (s : State) : Host.Outcome State Fault Refusal :=
  s.onG (GStack.aluR .sbc .c)
/-- SBC A,D (R374). -/
def execSbc_A_D (s : State) : Host.Outcome State Fault Refusal :=
  s.onG (GStack.aluR .sbc .d)
/-- SBC A,E (R374). -/
def execSbc_A_E (s : State) : Host.Outcome State Fault Refusal :=
  s.onG (GStack.aluR .sbc .e)
/-- SBC A,H (R374). -/
def execSbc_A_H (s : State) : Host.Outcome State Fault Refusal :=
  s.onG (GStack.aluR .sbc .h)
/-- SBC A,L (R374). -/
def execSbc_A_L (s : State) : Host.Outcome State Fault Refusal :=
  s.onG (GStack.aluR .sbc .l)
/-- SBC A,(HL) (R374). -/
def execSbc_A_mHL (s : State) : Host.Outcome State Fault Refusal :=
  s.onG (GStack.aluR .sbc .mHL)
/-- SBC A,A (R374). -/
def execSbc_A_A (s : State) : Host.Outcome State Fault Refusal :=
  s.onG (GStack.aluR .sbc .a)
/-- AND B (R375). -/
def execAnd_B (s : State) : Host.Outcome State Fault Refusal :=
  s.onG (GStack.aluR .and .b)
/-- AND C (R375). -/
def execAnd_C (s : State) : Host.Outcome State Fault Refusal :=
  s.onG (GStack.aluR .and .c)
/-- AND D (R375). -/
def execAnd_D (s : State) : Host.Outcome State Fault Refusal :=
  s.onG (GStack.aluR .and .d)
/-- AND E (R375). -/
def execAnd_E (s : State) : Host.Outcome State Fault Refusal :=
  s.onG (GStack.aluR .and .e)
/-- AND H (R375). -/
def execAnd_H (s : State) : Host.Outcome State Fault Refusal :=
  s.onG (GStack.aluR .and .h)
/-- AND L (R375). -/
def execAnd_L (s : State) : Host.Outcome State Fault Refusal :=
  s.onG (GStack.aluR .and .l)
/-- AND (HL) (R375). -/
def execAnd_mHL (s : State) : Host.Outcome State Fault Refusal :=
  s.onG (GStack.aluR .and .mHL)
/-- AND A (R375). -/
def execAnd_A (s : State) : Host.Outcome State Fault Refusal :=
  s.onG (GStack.aluR .and .a)
/-- XOR B (R376). -/
def execXor_B (s : State) : Host.Outcome State Fault Refusal :=
  s.onG (GStack.aluR .xor .b)
/-- XOR C (R376). -/
def execXor_C (s : State) : Host.Outcome State Fault Refusal :=
  s.onG (GStack.aluR .xor .c)
/-- XOR D (R376). -/
def execXor_D (s : State) : Host.Outcome State Fault Refusal :=
  s.onG (GStack.aluR .xor .d)
/-- XOR E (R376). -/
def execXor_E (s : State) : Host.Outcome State Fault Refusal :=
  s.onG (GStack.aluR .xor .e)
/-- XOR H (R376). -/
def execXor_H (s : State) : Host.Outcome State Fault Refusal :=
  s.onG (GStack.aluR .xor .h)
/-- XOR L (R376). -/
def execXor_L (s : State) : Host.Outcome State Fault Refusal :=
  s.onG (GStack.aluR .xor .l)
/-- XOR (HL) (R376). -/
def execXor_mHL (s : State) : Host.Outcome State Fault Refusal :=
  s.onG (GStack.aluR .xor .mHL)
/-- XOR A (R376). -/
def execXor_A (s : State) : Host.Outcome State Fault Refusal :=
  s.onG (GStack.aluR .xor .a)
/-- OR B (R377). -/
def execOr_B (s : State) : Host.Outcome State Fault Refusal :=
  s.onG (GStack.aluR .or .b)
/-- OR C (R377). -/
def execOr_C (s : State) : Host.Outcome State Fault Refusal :=
  s.onG (GStack.aluR .or .c)
/-- OR D (R377). -/
def execOr_D (s : State) : Host.Outcome State Fault Refusal :=
  s.onG (GStack.aluR .or .d)
/-- OR E (R377). -/
def execOr_E (s : State) : Host.Outcome State Fault Refusal :=
  s.onG (GStack.aluR .or .e)
/-- OR H (R377). -/
def execOr_H (s : State) : Host.Outcome State Fault Refusal :=
  s.onG (GStack.aluR .or .h)
/-- OR L (R377). -/
def execOr_L (s : State) : Host.Outcome State Fault Refusal :=
  s.onG (GStack.aluR .or .l)
/-- OR (HL) (R377). -/
def execOr_mHL (s : State) : Host.Outcome State Fault Refusal :=
  s.onG (GStack.aluR .or .mHL)
/-- OR A (R377). -/
def execOr_A (s : State) : Host.Outcome State Fault Refusal :=
  s.onG (GStack.aluR .or .a)
/-- CP B (R378). -/
def execCp_B (s : State) : Host.Outcome State Fault Refusal :=
  s.onG (GStack.aluR .cp .b)
/-- CP C (R378). -/
def execCp_C (s : State) : Host.Outcome State Fault Refusal :=
  s.onG (GStack.aluR .cp .c)
/-- CP D (R378). -/
def execCp_D (s : State) : Host.Outcome State Fault Refusal :=
  s.onG (GStack.aluR .cp .d)
/-- CP E (R378). -/
def execCp_E (s : State) : Host.Outcome State Fault Refusal :=
  s.onG (GStack.aluR .cp .e)
/-- CP H (R378). -/
def execCp_H (s : State) : Host.Outcome State Fault Refusal :=
  s.onG (GStack.aluR .cp .h)
/-- CP L (R378). -/
def execCp_L (s : State) : Host.Outcome State Fault Refusal :=
  s.onG (GStack.aluR .cp .l)
/-- CP (HL) (R378). -/
def execCp_mHL (s : State) : Host.Outcome State Fault Refusal :=
  s.onG (GStack.aluR .cp .mHL)
/-- CP A (R378). -/
def execCp_A (s : State) : Host.Outcome State Fault Refusal :=
  s.onG (GStack.aluR .cp .a)
/-- ADD A,d8 (R371). -/
def execAdd_A_d8 (d8 : Byte) (s : State) : Host.Outcome State Fault Refusal :=
  s.onG (GStack.aluD8 .add d8)
/-- ADC A,d8 (R372). -/
def execAdc_A_d8 (d8 : Byte) (s : State) : Host.Outcome State Fault Refusal :=
  s.onG (GStack.aluD8 .adc d8)
/-- SUB d8 (R373). -/
def execSub_d8 (d8 : Byte) (s : State) : Host.Outcome State Fault Refusal :=
  s.onG (GStack.aluD8 .sub d8)
/-- SBC A,d8 (R374). -/
def execSbc_A_d8 (d8 : Byte) (s : State) : Host.Outcome State Fault Refusal :=
  s.onG (GStack.aluD8 .sbc d8)
/-- AND d8 (R375). -/
def execAnd_d8 (d8 : Byte) (s : State) : Host.Outcome State Fault Refusal :=
  s.onG (GStack.aluD8 .and d8)
/-- ADD SP,r8 (R413). -/
def execAdd_SP_r8 (r8 : Byte) (s : State) : Host.Outcome State Fault Refusal :=
  s.onG (GStack.addSpR8 r8)
/-- XOR d8 (R376). -/
def execXor_d8 (d8 : Byte) (s : State) : Host.Outcome State Fault Refusal :=
  s.onG (GStack.aluD8 .xor d8)
/-- OR d8 (R377). -/
def execOr_d8 (d8 : Byte) (s : State) : Host.Outcome State Fault Refusal :=
  s.onG (GStack.aluD8 .or d8)
/-- CP d8 (R378). -/
def execCp_d8 (d8 : Byte) (s : State) : Host.Outcome State Fault Refusal :=
  s.onG (GStack.aluD8 .cp d8)

end Sys2Proof.Machine
end

