-- ==== Sys2Proof/Machine/Sm83Control.lean ====
section
/-! DEFINITION. SM83 jumps, calls, returns and CPU control (spec/47_sm83_control.md R430 to R447). -/

namespace Sys2Proof.Machine

namespace GStack

/-- `PC <- target`. -/
def jump (g : GStack) (target : Word) : GStack := g.mapCpu fun r => { r with pc := target }

/-- A conditional transfer: when the condition holds, `f` and the taken cost (R310, R430). -/
def ifCond (cc : Cond) (taken : Nat) (f : GStack → GStack) (g : GStack) : GStack :=
  if condHolds cc g.cpu.f then f { g with cycles := taken } else g

/-- `Push16(PC); PC <- target`. -/
def callTo (g : GStack) (target : Word) : GStack := (g.push16 g.cpu.pc).jump target

/-- `PC <- Pop16()`. -/
def popPc (g : GStack) : GStack := g.pop16.2.jump g.pop16.1

/-- JP a16 (R431). -/
def jp (a : Word) : GStack → GStack := instr 3 16 fun g => g.jump a
/-- JP cc,a16 (R432). -/
def jpCc (cc : Cond) (a : Word) : GStack → GStack := instr 3 12 (ifCond cc 16 fun g => g.jump a)
/-- JP HL (R433). -/
def jpHl : GStack → GStack := instr 1 4 fun g => g.jump g.cpu.hl
/-- JR r8 (R434). -/
def jr (b1 : Byte) : GStack → GStack := instr 2 12 fun g => g.jump (g.cpu.pc + sext16 b1)
/-- JR cc,r8 (R435). -/
def jrCc (cc : Cond) (b1 : Byte) : GStack → GStack :=
  instr 2 8 (ifCond cc 12 fun g => g.jump (g.cpu.pc + sext16 b1))
/-- CALL a16 (R436). -/
def call (a : Word) : GStack → GStack := instr 3 24 fun g => g.callTo a
/-- CALL cc,a16 (R437). -/
def callCc (cc : Cond) (a : Word) : GStack → GStack := instr 3 12 (ifCond cc 24 fun g => g.callTo a)
/-- RET (R438). -/
def ret : GStack → GStack := instr 1 16 popPc
/-- RET cc (R439). -/
def retCc (cc : Cond) : GStack → GStack := instr 1 8 (ifCond cc 20 popPc)
/-- RETI (R440). -/
def reti : GStack → GStack := instr 1 16 returnFromInterrupt
/-- RST n, with the target `8 t` (R441). -/
def rst (target : Word) : GStack → GStack := instr 1 16 fun g => g.callTo target
/-- NOP (R442). -/
def nop : GStack → GStack := instr 1 4 fun g => g
/-- HALT (R443). -/
def halt : GStack → GStack := instr 1 4 fun g => g.mapCpu fun r => { r with halted := true }
/-- STOP, whose padding byte is skipped (R444). -/
def stop : GStack → GStack := instr 2 4 fun g => g.mapCpu fun r => { r with stopped := true }
/-- DI (R445). -/
def di : GStack → GStack := instr 1 4 fun g => g.mapCpu fun r => { r with ime := false, imeDelay := 0 }
/-- EI (R446). -/
def ei : GStack → GStack :=
  instr 1 4 fun g => g.mapCpu fun r => { r with imeDelay := if r.imeDelay = 0 then 2 else r.imeDelay }
/-- ILLEGAL_xx: the machine's fault; `PC` is not advanced and `ime_delay` is not ticked (R447). -/
def illegal (op : Byte) (g : GStack) : GStack := g.raiseFault (.illegalOpcode op)

end GStack

/-- NOP (R442). -/
def execNop_sm83 (s : State) : Host.Outcome State Fault Refusal :=
  s.onG GStack.nop
/-- STOP (R444). -/
def execStop (_pad : Byte) (s : State) : Host.Outcome State Fault Refusal :=
  s.onG GStack.stop
/-- JR r8 (R434). -/
def execJr_r8 (r8 : Byte) (s : State) : Host.Outcome State Fault Refusal :=
  s.onG (GStack.jr r8)
/-- JR NZ,r8 (R435). -/
def execJr_NZ_r8 (r8 : Byte) (s : State) : Host.Outcome State Fault Refusal :=
  s.onG (GStack.jrCc .nz r8)
/-- JR Z,r8 (R435). -/
def execJr_Z_r8 (r8 : Byte) (s : State) : Host.Outcome State Fault Refusal :=
  s.onG (GStack.jrCc .z r8)
/-- JR NC,r8 (R435). -/
def execJr_NC_r8 (r8 : Byte) (s : State) : Host.Outcome State Fault Refusal :=
  s.onG (GStack.jrCc .nc r8)
/-- JR C,r8 (R435). -/
def execJr_C_r8 (r8 : Byte) (s : State) : Host.Outcome State Fault Refusal :=
  s.onG (GStack.jrCc .c r8)
/-- HALT (R443). -/
def execHalt (s : State) : Host.Outcome State Fault Refusal :=
  s.onG GStack.halt
/-- RET NZ (R439). -/
def execRet_NZ (s : State) : Host.Outcome State Fault Refusal :=
  s.onG (GStack.retCc .nz)
/-- JP NZ,a16 (R432). -/
def execJp_NZ_a16 (a16 : Word) (s : State) : Host.Outcome State Fault Refusal :=
  s.onG (GStack.jpCc .nz a16)
/-- JP a16 (R431). -/
def execJp_a16 (a16 : Word) (s : State) : Host.Outcome State Fault Refusal :=
  s.onG (GStack.jp a16)
/-- CALL NZ,a16 (R437). -/
def execCall_NZ_a16 (a16 : Word) (s : State) : Host.Outcome State Fault Refusal :=
  s.onG (GStack.callCc .nz a16)
/-- RST 00H (R441). -/
def execRst_00H (s : State) : Host.Outcome State Fault Refusal :=
  s.onG (GStack.rst 0x0000)
/-- RET Z (R439). -/
def execRet_Z (s : State) : Host.Outcome State Fault Refusal :=
  s.onG (GStack.retCc .z)
/-- RET (R438). -/
def execRet (s : State) : Host.Outcome State Fault Refusal :=
  s.onG GStack.ret
/-- JP Z,a16 (R432). -/
def execJp_Z_a16 (a16 : Word) (s : State) : Host.Outcome State Fault Refusal :=
  s.onG (GStack.jpCc .z a16)
/-- CALL Z,a16 (R437). -/
def execCall_Z_a16 (a16 : Word) (s : State) : Host.Outcome State Fault Refusal :=
  s.onG (GStack.callCc .z a16)
/-- CALL a16 (R436). -/
def execCall_a16 (a16 : Word) (s : State) : Host.Outcome State Fault Refusal :=
  s.onG (GStack.call a16)
/-- RST 08H (R441). -/
def execRst_08H (s : State) : Host.Outcome State Fault Refusal :=
  s.onG (GStack.rst 0x0008)
/-- RET NC (R439). -/
def execRet_NC (s : State) : Host.Outcome State Fault Refusal :=
  s.onG (GStack.retCc .nc)
/-- JP NC,a16 (R432). -/
def execJp_NC_a16 (a16 : Word) (s : State) : Host.Outcome State Fault Refusal :=
  s.onG (GStack.jpCc .nc a16)
/-- ILLEGAL_D3 (R447). -/
def execIllegal_D3 (s : State) : Host.Outcome State Fault Refusal :=
  s.onG (GStack.illegal 0xD3)
/-- CALL NC,a16 (R437). -/
def execCall_NC_a16 (a16 : Word) (s : State) : Host.Outcome State Fault Refusal :=
  s.onG (GStack.callCc .nc a16)
/-- RST 10H (R441). -/
def execRst_10H (s : State) : Host.Outcome State Fault Refusal :=
  s.onG (GStack.rst 0x0010)
/-- RET C (R439). -/
def execRet_C (s : State) : Host.Outcome State Fault Refusal :=
  s.onG (GStack.retCc .c)
/-- RETI (R440). -/
def execReti (s : State) : Host.Outcome State Fault Refusal :=
  s.onG GStack.reti
/-- JP C,a16 (R432). -/
def execJp_C_a16 (a16 : Word) (s : State) : Host.Outcome State Fault Refusal :=
  s.onG (GStack.jpCc .c a16)
/-- ILLEGAL_DB (R447). -/
def execIllegal_DB (s : State) : Host.Outcome State Fault Refusal :=
  s.onG (GStack.illegal 0xDB)
/-- CALL C,a16 (R437). -/
def execCall_C_a16 (a16 : Word) (s : State) : Host.Outcome State Fault Refusal :=
  s.onG (GStack.callCc .c a16)
/-- ILLEGAL_DD (R447). -/
def execIllegal_DD (s : State) : Host.Outcome State Fault Refusal :=
  s.onG (GStack.illegal 0xDD)
/-- RST 18H (R441). -/
def execRst_18H (s : State) : Host.Outcome State Fault Refusal :=
  s.onG (GStack.rst 0x0018)
/-- ILLEGAL_E3 (R447). -/
def execIllegal_E3 (s : State) : Host.Outcome State Fault Refusal :=
  s.onG (GStack.illegal 0xE3)
/-- ILLEGAL_E4 (R447). -/
def execIllegal_E4 (s : State) : Host.Outcome State Fault Refusal :=
  s.onG (GStack.illegal 0xE4)
/-- RST 20H (R441). -/
def execRst_20H (s : State) : Host.Outcome State Fault Refusal :=
  s.onG (GStack.rst 0x0020)
/-- JP HL (R433). -/
def execJp_HL (s : State) : Host.Outcome State Fault Refusal :=
  s.onG GStack.jpHl
/-- ILLEGAL_EB (R447). -/
def execIllegal_EB (s : State) : Host.Outcome State Fault Refusal :=
  s.onG (GStack.illegal 0xEB)
/-- ILLEGAL_EC (R447). -/
def execIllegal_EC (s : State) : Host.Outcome State Fault Refusal :=
  s.onG (GStack.illegal 0xEC)
/-- ILLEGAL_ED (R447). -/
def execIllegal_ED (s : State) : Host.Outcome State Fault Refusal :=
  s.onG (GStack.illegal 0xED)
/-- RST 28H (R441). -/
def execRst_28H (s : State) : Host.Outcome State Fault Refusal :=
  s.onG (GStack.rst 0x0028)
/-- DI (R445). -/
def execDi (s : State) : Host.Outcome State Fault Refusal :=
  s.onG GStack.di
/-- ILLEGAL_F4 (R447). -/
def execIllegal_F4 (s : State) : Host.Outcome State Fault Refusal :=
  s.onG (GStack.illegal 0xF4)
/-- RST 30H (R441). -/
def execRst_30H (s : State) : Host.Outcome State Fault Refusal :=
  s.onG (GStack.rst 0x0030)
/-- EI (R446). -/
def execEi (s : State) : Host.Outcome State Fault Refusal :=
  s.onG GStack.ei
/-- ILLEGAL_FC (R447). -/
def execIllegal_FC (s : State) : Host.Outcome State Fault Refusal :=
  s.onG (GStack.illegal 0xFC)
/-- ILLEGAL_FD (R447). -/
def execIllegal_FD (s : State) : Host.Outcome State Fault Refusal :=
  s.onG (GStack.illegal 0xFD)
/-- RST 38H (R441). -/
def execRst_38H (s : State) : Host.Outcome State Fault Refusal :=
  s.onG (GStack.rst 0x0038)

end Sys2Proof.Machine
end

