-- ==== Sys2Proof/Machine/Sm83Cb.lean ====
section
/-! DEFINITION. SM83 CB-prefixed instructions (spec/48_sm83_cb.md R470 to R481, and R448). -/

namespace Sys2Proof.Machine

namespace GStack

/-- A rotate or shift of the second table: 8 cycles, 16 with `(HL)` (R470 to R478). -/
def cbRot (op : RotOp) (r : R8) : GStack → GStack :=
  instr 2 (if r = .mHL then 16 else 8)
    (modify8 r fun f v => ((rotOp op f.c v).1, rotFlags (rotOp op f.c v).1 (rotOp op f.c v).2))

/-- BIT b,r: 8 cycles, 12 with `(HL)`; nothing is written back (R479). -/
def cbBit (b : Nat) (r : R8) : GStack → GStack :=
  instr 2 (if r = .mHL then 12 else 8) fun g =>
    (g.get8 r).2.mapCpu fun c => { c with f := bitFlags c.f b (g.get8 r).1 }

/-- RES b,r (R480). -/
def cbRes (b : Nat) (r : R8) : GStack → GStack :=
  instr 2 (if r = .mHL then 16 else 8) fun g => (g.get8 r).2.set8 r ((g.get8 r).1 &&& ~~~(1#8 <<< b))

/-- SET b,r (R481). -/
def cbSet (b : Nat) (r : R8) : GStack → GStack :=
  instr 2 (if r = .mHL then 16 else 8) fun g => (g.get8 r).2.set8 r ((g.get8 r).1 ||| (1#8 <<< b))

/-- The entry of the second table that `cbop` selects, by its fields `x`, `y`, `z` (R164, R470). -/
def cbEntry (cbop : Byte) : GStack → GStack :=
  let x := cbop.extractLsb' 6 2
  let y := cbop.extractLsb' 3 3
  let z := R8.ofField (cbop.extractLsb' 0 3)
  if x = 0 then cbRot (RotOp.ofField y) z
  else if x = 1 then cbBit y.toNat z
  else if x = 2 then cbRes y.toNat z
  else cbSet y.toNat z

end GStack

/-- PREFIX CB: with its second byte, the entry of the second table (R448; assumption log 12). -/
def execPrefixCB (cbop : Byte) (s : State) : Host.Outcome State Fault Refusal :=
  s.onG (GStack.cbEntry cbop)
/-- RLC B (R471). -/
def execRlc_B (s : State) : Host.Outcome State Fault Refusal :=
  s.onG (GStack.cbRot .rlc .b)
/-- RLC C (R471). -/
def execRlc_C (s : State) : Host.Outcome State Fault Refusal :=
  s.onG (GStack.cbRot .rlc .c)
/-- RLC D (R471). -/
def execRlc_D (s : State) : Host.Outcome State Fault Refusal :=
  s.onG (GStack.cbRot .rlc .d)
/-- RLC E (R471). -/
def execRlc_E (s : State) : Host.Outcome State Fault Refusal :=
  s.onG (GStack.cbRot .rlc .e)
/-- RLC H (R471). -/
def execRlc_H (s : State) : Host.Outcome State Fault Refusal :=
  s.onG (GStack.cbRot .rlc .h)
/-- RLC L (R471). -/
def execRlc_L (s : State) : Host.Outcome State Fault Refusal :=
  s.onG (GStack.cbRot .rlc .l)
/-- RLC (HL) (R471). -/
def execRlc_mHL (s : State) : Host.Outcome State Fault Refusal :=
  s.onG (GStack.cbRot .rlc .mHL)
/-- RLC A (R471). -/
def execRlc_A (s : State) : Host.Outcome State Fault Refusal :=
  s.onG (GStack.cbRot .rlc .a)
/-- RRC B (R472). -/
def execRrc_B (s : State) : Host.Outcome State Fault Refusal :=
  s.onG (GStack.cbRot .rrc .b)
/-- RRC C (R472). -/
def execRrc_C (s : State) : Host.Outcome State Fault Refusal :=
  s.onG (GStack.cbRot .rrc .c)
/-- RRC D (R472). -/
def execRrc_D (s : State) : Host.Outcome State Fault Refusal :=
  s.onG (GStack.cbRot .rrc .d)
/-- RRC E (R472). -/
def execRrc_E (s : State) : Host.Outcome State Fault Refusal :=
  s.onG (GStack.cbRot .rrc .e)
/-- RRC H (R472). -/
def execRrc_H (s : State) : Host.Outcome State Fault Refusal :=
  s.onG (GStack.cbRot .rrc .h)
/-- RRC L (R472). -/
def execRrc_L (s : State) : Host.Outcome State Fault Refusal :=
  s.onG (GStack.cbRot .rrc .l)
/-- RRC (HL) (R472). -/
def execRrc_mHL (s : State) : Host.Outcome State Fault Refusal :=
  s.onG (GStack.cbRot .rrc .mHL)
/-- RRC A (R472). -/
def execRrc_A (s : State) : Host.Outcome State Fault Refusal :=
  s.onG (GStack.cbRot .rrc .a)
/-- RL B (R473). -/
def execRl_B (s : State) : Host.Outcome State Fault Refusal :=
  s.onG (GStack.cbRot .rl .b)
/-- RL C (R473). -/
def execRl_C (s : State) : Host.Outcome State Fault Refusal :=
  s.onG (GStack.cbRot .rl .c)
/-- RL D (R473). -/
def execRl_D (s : State) : Host.Outcome State Fault Refusal :=
  s.onG (GStack.cbRot .rl .d)
/-- RL E (R473). -/
def execRl_E (s : State) : Host.Outcome State Fault Refusal :=
  s.onG (GStack.cbRot .rl .e)
/-- RL H (R473). -/
def execRl_H (s : State) : Host.Outcome State Fault Refusal :=
  s.onG (GStack.cbRot .rl .h)
/-- RL L (R473). -/
def execRl_L (s : State) : Host.Outcome State Fault Refusal :=
  s.onG (GStack.cbRot .rl .l)
/-- RL (HL) (R473). -/
def execRl_mHL (s : State) : Host.Outcome State Fault Refusal :=
  s.onG (GStack.cbRot .rl .mHL)
/-- RL A (R473). -/
def execRl_A (s : State) : Host.Outcome State Fault Refusal :=
  s.onG (GStack.cbRot .rl .a)
/-- RR B (R474). -/
def execRr_B (s : State) : Host.Outcome State Fault Refusal :=
  s.onG (GStack.cbRot .rr .b)
/-- RR C (R474). -/
def execRr_C (s : State) : Host.Outcome State Fault Refusal :=
  s.onG (GStack.cbRot .rr .c)
/-- RR D (R474). -/
def execRr_D (s : State) : Host.Outcome State Fault Refusal :=
  s.onG (GStack.cbRot .rr .d)
/-- RR E (R474). -/
def execRr_E (s : State) : Host.Outcome State Fault Refusal :=
  s.onG (GStack.cbRot .rr .e)
/-- RR H (R474). -/
def execRr_H (s : State) : Host.Outcome State Fault Refusal :=
  s.onG (GStack.cbRot .rr .h)
/-- RR L (R474). -/
def execRr_L (s : State) : Host.Outcome State Fault Refusal :=
  s.onG (GStack.cbRot .rr .l)
/-- RR (HL) (R474). -/
def execRr_mHL (s : State) : Host.Outcome State Fault Refusal :=
  s.onG (GStack.cbRot .rr .mHL)
/-- RR A (R474). -/
def execRr_A (s : State) : Host.Outcome State Fault Refusal :=
  s.onG (GStack.cbRot .rr .a)
/-- SLA B (R475). -/
def execSla_B (s : State) : Host.Outcome State Fault Refusal :=
  s.onG (GStack.cbRot .sla .b)
/-- SLA C (R475). -/
def execSla_C (s : State) : Host.Outcome State Fault Refusal :=
  s.onG (GStack.cbRot .sla .c)
/-- SLA D (R475). -/
def execSla_D (s : State) : Host.Outcome State Fault Refusal :=
  s.onG (GStack.cbRot .sla .d)
/-- SLA E (R475). -/
def execSla_E (s : State) : Host.Outcome State Fault Refusal :=
  s.onG (GStack.cbRot .sla .e)
/-- SLA H (R475). -/
def execSla_H (s : State) : Host.Outcome State Fault Refusal :=
  s.onG (GStack.cbRot .sla .h)
/-- SLA L (R475). -/
def execSla_L (s : State) : Host.Outcome State Fault Refusal :=
  s.onG (GStack.cbRot .sla .l)
/-- SLA (HL) (R475). -/
def execSla_mHL (s : State) : Host.Outcome State Fault Refusal :=
  s.onG (GStack.cbRot .sla .mHL)
/-- SLA A (R475). -/
def execSla_A (s : State) : Host.Outcome State Fault Refusal :=
  s.onG (GStack.cbRot .sla .a)
/-- SRA B (R476). -/
def execSra_B (s : State) : Host.Outcome State Fault Refusal :=
  s.onG (GStack.cbRot .sra .b)
/-- SRA C (R476). -/
def execSra_C (s : State) : Host.Outcome State Fault Refusal :=
  s.onG (GStack.cbRot .sra .c)
/-- SRA D (R476). -/
def execSra_D (s : State) : Host.Outcome State Fault Refusal :=
  s.onG (GStack.cbRot .sra .d)
/-- SRA E (R476). -/
def execSra_E (s : State) : Host.Outcome State Fault Refusal :=
  s.onG (GStack.cbRot .sra .e)
/-- SRA H (R476). -/
def execSra_H (s : State) : Host.Outcome State Fault Refusal :=
  s.onG (GStack.cbRot .sra .h)
/-- SRA L (R476). -/
def execSra_L (s : State) : Host.Outcome State Fault Refusal :=
  s.onG (GStack.cbRot .sra .l)
/-- SRA (HL) (R476). -/
def execSra_mHL (s : State) : Host.Outcome State Fault Refusal :=
  s.onG (GStack.cbRot .sra .mHL)
/-- SRA A (R476). -/
def execSra_A (s : State) : Host.Outcome State Fault Refusal :=
  s.onG (GStack.cbRot .sra .a)
/-- SWAP B (R477). -/
def execSwap_B (s : State) : Host.Outcome State Fault Refusal :=
  s.onG (GStack.cbRot .swap .b)
/-- SWAP C (R477). -/
def execSwap_C (s : State) : Host.Outcome State Fault Refusal :=
  s.onG (GStack.cbRot .swap .c)
/-- SWAP D (R477). -/
def execSwap_D (s : State) : Host.Outcome State Fault Refusal :=
  s.onG (GStack.cbRot .swap .d)
/-- SWAP E (R477). -/
def execSwap_E (s : State) : Host.Outcome State Fault Refusal :=
  s.onG (GStack.cbRot .swap .e)
/-- SWAP H (R477). -/
def execSwap_H (s : State) : Host.Outcome State Fault Refusal :=
  s.onG (GStack.cbRot .swap .h)
/-- SWAP L (R477). -/
def execSwap_L (s : State) : Host.Outcome State Fault Refusal :=
  s.onG (GStack.cbRot .swap .l)
/-- SWAP (HL) (R477). -/
def execSwap_mHL (s : State) : Host.Outcome State Fault Refusal :=
  s.onG (GStack.cbRot .swap .mHL)
/-- SWAP A (R477). -/
def execSwap_A (s : State) : Host.Outcome State Fault Refusal :=
  s.onG (GStack.cbRot .swap .a)
/-- SRL B (R478). -/
def execSrl_B (s : State) : Host.Outcome State Fault Refusal :=
  s.onG (GStack.cbRot .srl .b)
/-- SRL C (R478). -/
def execSrl_C (s : State) : Host.Outcome State Fault Refusal :=
  s.onG (GStack.cbRot .srl .c)
/-- SRL D (R478). -/
def execSrl_D (s : State) : Host.Outcome State Fault Refusal :=
  s.onG (GStack.cbRot .srl .d)
/-- SRL E (R478). -/
def execSrl_E (s : State) : Host.Outcome State Fault Refusal :=
  s.onG (GStack.cbRot .srl .e)
/-- SRL H (R478). -/
def execSrl_H (s : State) : Host.Outcome State Fault Refusal :=
  s.onG (GStack.cbRot .srl .h)
/-- SRL L (R478). -/
def execSrl_L (s : State) : Host.Outcome State Fault Refusal :=
  s.onG (GStack.cbRot .srl .l)
/-- SRL (HL) (R478). -/
def execSrl_mHL (s : State) : Host.Outcome State Fault Refusal :=
  s.onG (GStack.cbRot .srl .mHL)
/-- SRL A (R478). -/
def execSrl_A (s : State) : Host.Outcome State Fault Refusal :=
  s.onG (GStack.cbRot .srl .a)
/-- BIT 0,B (R479). -/
def execBit_0_B (s : State) : Host.Outcome State Fault Refusal :=
  s.onG (GStack.cbBit 0 .b)
/-- BIT 0,C (R479). -/
def execBit_0_C (s : State) : Host.Outcome State Fault Refusal :=
  s.onG (GStack.cbBit 0 .c)
/-- BIT 0,D (R479). -/
def execBit_0_D (s : State) : Host.Outcome State Fault Refusal :=
  s.onG (GStack.cbBit 0 .d)
/-- BIT 0,E (R479). -/
def execBit_0_E (s : State) : Host.Outcome State Fault Refusal :=
  s.onG (GStack.cbBit 0 .e)
/-- BIT 0,H (R479). -/
def execBit_0_H (s : State) : Host.Outcome State Fault Refusal :=
  s.onG (GStack.cbBit 0 .h)
/-- BIT 0,L (R479). -/
def execBit_0_L (s : State) : Host.Outcome State Fault Refusal :=
  s.onG (GStack.cbBit 0 .l)
/-- BIT 0,(HL) (R479). -/
def execBit_0_mHL (s : State) : Host.Outcome State Fault Refusal :=
  s.onG (GStack.cbBit 0 .mHL)
/-- BIT 0,A (R479). -/
def execBit_0_A (s : State) : Host.Outcome State Fault Refusal :=
  s.onG (GStack.cbBit 0 .a)
/-- BIT 1,B (R479). -/
def execBit_1_B (s : State) : Host.Outcome State Fault Refusal :=
  s.onG (GStack.cbBit 1 .b)
/-- BIT 1,C (R479). -/
def execBit_1_C (s : State) : Host.Outcome State Fault Refusal :=
  s.onG (GStack.cbBit 1 .c)
/-- BIT 1,D (R479). -/
def execBit_1_D (s : State) : Host.Outcome State Fault Refusal :=
  s.onG (GStack.cbBit 1 .d)
/-- BIT 1,E (R479). -/
def execBit_1_E (s : State) : Host.Outcome State Fault Refusal :=
  s.onG (GStack.cbBit 1 .e)
/-- BIT 1,H (R479). -/
def execBit_1_H (s : State) : Host.Outcome State Fault Refusal :=
  s.onG (GStack.cbBit 1 .h)
/-- BIT 1,L (R479). -/
def execBit_1_L (s : State) : Host.Outcome State Fault Refusal :=
  s.onG (GStack.cbBit 1 .l)
/-- BIT 1,(HL) (R479). -/
def execBit_1_mHL (s : State) : Host.Outcome State Fault Refusal :=
  s.onG (GStack.cbBit 1 .mHL)
/-- BIT 1,A (R479). -/
def execBit_1_A (s : State) : Host.Outcome State Fault Refusal :=
  s.onG (GStack.cbBit 1 .a)
/-- BIT 2,B (R479). -/
def execBit_2_B (s : State) : Host.Outcome State Fault Refusal :=
  s.onG (GStack.cbBit 2 .b)
/-- BIT 2,C (R479). -/
def execBit_2_C (s : State) : Host.Outcome State Fault Refusal :=
  s.onG (GStack.cbBit 2 .c)
/-- BIT 2,D (R479). -/
def execBit_2_D (s : State) : Host.Outcome State Fault Refusal :=
  s.onG (GStack.cbBit 2 .d)
/-- BIT 2,E (R479). -/
def execBit_2_E (s : State) : Host.Outcome State Fault Refusal :=
  s.onG (GStack.cbBit 2 .e)
/-- BIT 2,H (R479). -/
def execBit_2_H (s : State) : Host.Outcome State Fault Refusal :=
  s.onG (GStack.cbBit 2 .h)
/-- BIT 2,L (R479). -/
def execBit_2_L (s : State) : Host.Outcome State Fault Refusal :=
  s.onG (GStack.cbBit 2 .l)
/-- BIT 2,(HL) (R479). -/
def execBit_2_mHL (s : State) : Host.Outcome State Fault Refusal :=
  s.onG (GStack.cbBit 2 .mHL)
/-- BIT 2,A (R479). -/
def execBit_2_A (s : State) : Host.Outcome State Fault Refusal :=
  s.onG (GStack.cbBit 2 .a)
/-- BIT 3,B (R479). -/
def execBit_3_B (s : State) : Host.Outcome State Fault Refusal :=
  s.onG (GStack.cbBit 3 .b)
/-- BIT 3,C (R479). -/
def execBit_3_C (s : State) : Host.Outcome State Fault Refusal :=
  s.onG (GStack.cbBit 3 .c)
/-- BIT 3,D (R479). -/
def execBit_3_D (s : State) : Host.Outcome State Fault Refusal :=
  s.onG (GStack.cbBit 3 .d)
/-- BIT 3,E (R479). -/
def execBit_3_E (s : State) : Host.Outcome State Fault Refusal :=
  s.onG (GStack.cbBit 3 .e)
/-- BIT 3,H (R479). -/
def execBit_3_H (s : State) : Host.Outcome State Fault Refusal :=
  s.onG (GStack.cbBit 3 .h)
/-- BIT 3,L (R479). -/
def execBit_3_L (s : State) : Host.Outcome State Fault Refusal :=
  s.onG (GStack.cbBit 3 .l)
/-- BIT 3,(HL) (R479). -/
def execBit_3_mHL (s : State) : Host.Outcome State Fault Refusal :=
  s.onG (GStack.cbBit 3 .mHL)
/-- BIT 3,A (R479). -/
def execBit_3_A (s : State) : Host.Outcome State Fault Refusal :=
  s.onG (GStack.cbBit 3 .a)
/-- BIT 4,B (R479). -/
def execBit_4_B (s : State) : Host.Outcome State Fault Refusal :=
  s.onG (GStack.cbBit 4 .b)
/-- BIT 4,C (R479). -/
def execBit_4_C (s : State) : Host.Outcome State Fault Refusal :=
  s.onG (GStack.cbBit 4 .c)
/-- BIT 4,D (R479). -/
def execBit_4_D (s : State) : Host.Outcome State Fault Refusal :=
  s.onG (GStack.cbBit 4 .d)
/-- BIT 4,E (R479). -/
def execBit_4_E (s : State) : Host.Outcome State Fault Refusal :=
  s.onG (GStack.cbBit 4 .e)
/-- BIT 4,H (R479). -/
def execBit_4_H (s : State) : Host.Outcome State Fault Refusal :=
  s.onG (GStack.cbBit 4 .h)
/-- BIT 4,L (R479). -/
def execBit_4_L (s : State) : Host.Outcome State Fault Refusal :=
  s.onG (GStack.cbBit 4 .l)
/-- BIT 4,(HL) (R479). -/
def execBit_4_mHL (s : State) : Host.Outcome State Fault Refusal :=
  s.onG (GStack.cbBit 4 .mHL)
/-- BIT 4,A (R479). -/
def execBit_4_A (s : State) : Host.Outcome State Fault Refusal :=
  s.onG (GStack.cbBit 4 .a)
/-- BIT 5,B (R479). -/
def execBit_5_B (s : State) : Host.Outcome State Fault Refusal :=
  s.onG (GStack.cbBit 5 .b)
/-- BIT 5,C (R479). -/
def execBit_5_C (s : State) : Host.Outcome State Fault Refusal :=
  s.onG (GStack.cbBit 5 .c)
/-- BIT 5,D (R479). -/
def execBit_5_D (s : State) : Host.Outcome State Fault Refusal :=
  s.onG (GStack.cbBit 5 .d)
/-- BIT 5,E (R479). -/
def execBit_5_E (s : State) : Host.Outcome State Fault Refusal :=
  s.onG (GStack.cbBit 5 .e)
/-- BIT 5,H (R479). -/
def execBit_5_H (s : State) : Host.Outcome State Fault Refusal :=
  s.onG (GStack.cbBit 5 .h)
/-- BIT 5,L (R479). -/
def execBit_5_L (s : State) : Host.Outcome State Fault Refusal :=
  s.onG (GStack.cbBit 5 .l)
/-- BIT 5,(HL) (R479). -/
def execBit_5_mHL (s : State) : Host.Outcome State Fault Refusal :=
  s.onG (GStack.cbBit 5 .mHL)
/-- BIT 5,A (R479). -/
def execBit_5_A (s : State) : Host.Outcome State Fault Refusal :=
  s.onG (GStack.cbBit 5 .a)
/-- BIT 6,B (R479). -/
def execBit_6_B (s : State) : Host.Outcome State Fault Refusal :=
  s.onG (GStack.cbBit 6 .b)
/-- BIT 6,C (R479). -/
def execBit_6_C (s : State) : Host.Outcome State Fault Refusal :=
  s.onG (GStack.cbBit 6 .c)
/-- BIT 6,D (R479). -/
def execBit_6_D (s : State) : Host.Outcome State Fault Refusal :=
  s.onG (GStack.cbBit 6 .d)
/-- BIT 6,E (R479). -/
def execBit_6_E (s : State) : Host.Outcome State Fault Refusal :=
  s.onG (GStack.cbBit 6 .e)
/-- BIT 6,H (R479). -/
def execBit_6_H (s : State) : Host.Outcome State Fault Refusal :=
  s.onG (GStack.cbBit 6 .h)
/-- BIT 6,L (R479). -/
def execBit_6_L (s : State) : Host.Outcome State Fault Refusal :=
  s.onG (GStack.cbBit 6 .l)
/-- BIT 6,(HL) (R479). -/
def execBit_6_mHL (s : State) : Host.Outcome State Fault Refusal :=
  s.onG (GStack.cbBit 6 .mHL)
/-- BIT 6,A (R479). -/
def execBit_6_A (s : State) : Host.Outcome State Fault Refusal :=
  s.onG (GStack.cbBit 6 .a)
/-- BIT 7,B (R479). -/
def execBit_7_B (s : State) : Host.Outcome State Fault Refusal :=
  s.onG (GStack.cbBit 7 .b)
/-- BIT 7,C (R479). -/
def execBit_7_C (s : State) : Host.Outcome State Fault Refusal :=
  s.onG (GStack.cbBit 7 .c)
/-- BIT 7,D (R479). -/
def execBit_7_D (s : State) : Host.Outcome State Fault Refusal :=
  s.onG (GStack.cbBit 7 .d)
/-- BIT 7,E (R479). -/
def execBit_7_E (s : State) : Host.Outcome State Fault Refusal :=
  s.onG (GStack.cbBit 7 .e)
/-- BIT 7,H (R479). -/
def execBit_7_H (s : State) : Host.Outcome State Fault Refusal :=
  s.onG (GStack.cbBit 7 .h)
/-- BIT 7,L (R479). -/
def execBit_7_L (s : State) : Host.Outcome State Fault Refusal :=
  s.onG (GStack.cbBit 7 .l)
/-- BIT 7,(HL) (R479). -/
def execBit_7_mHL (s : State) : Host.Outcome State Fault Refusal :=
  s.onG (GStack.cbBit 7 .mHL)
/-- BIT 7,A (R479). -/
def execBit_7_A (s : State) : Host.Outcome State Fault Refusal :=
  s.onG (GStack.cbBit 7 .a)
/-- RES 0,B (R480). -/
def execRes_0_B (s : State) : Host.Outcome State Fault Refusal :=
  s.onG (GStack.cbRes 0 .b)
/-- RES 0,C (R480). -/
def execRes_0_C (s : State) : Host.Outcome State Fault Refusal :=
  s.onG (GStack.cbRes 0 .c)
/-- RES 0,D (R480). -/
def execRes_0_D (s : State) : Host.Outcome State Fault Refusal :=
  s.onG (GStack.cbRes 0 .d)
/-- RES 0,E (R480). -/
def execRes_0_E (s : State) : Host.Outcome State Fault Refusal :=
  s.onG (GStack.cbRes 0 .e)
/-- RES 0,H (R480). -/
def execRes_0_H (s : State) : Host.Outcome State Fault Refusal :=
  s.onG (GStack.cbRes 0 .h)
/-- RES 0,L (R480). -/
def execRes_0_L (s : State) : Host.Outcome State Fault Refusal :=
  s.onG (GStack.cbRes 0 .l)
/-- RES 0,(HL) (R480). -/
def execRes_0_mHL (s : State) : Host.Outcome State Fault Refusal :=
  s.onG (GStack.cbRes 0 .mHL)
/-- RES 0,A (R480). -/
def execRes_0_A (s : State) : Host.Outcome State Fault Refusal :=
  s.onG (GStack.cbRes 0 .a)
/-- RES 1,B (R480). -/
def execRes_1_B (s : State) : Host.Outcome State Fault Refusal :=
  s.onG (GStack.cbRes 1 .b)
/-- RES 1,C (R480). -/
def execRes_1_C (s : State) : Host.Outcome State Fault Refusal :=
  s.onG (GStack.cbRes 1 .c)
/-- RES 1,D (R480). -/
def execRes_1_D (s : State) : Host.Outcome State Fault Refusal :=
  s.onG (GStack.cbRes 1 .d)
/-- RES 1,E (R480). -/
def execRes_1_E (s : State) : Host.Outcome State Fault Refusal :=
  s.onG (GStack.cbRes 1 .e)
/-- RES 1,H (R480). -/
def execRes_1_H (s : State) : Host.Outcome State Fault Refusal :=
  s.onG (GStack.cbRes 1 .h)
/-- RES 1,L (R480). -/
def execRes_1_L (s : State) : Host.Outcome State Fault Refusal :=
  s.onG (GStack.cbRes 1 .l)
/-- RES 1,(HL) (R480). -/
def execRes_1_mHL (s : State) : Host.Outcome State Fault Refusal :=
  s.onG (GStack.cbRes 1 .mHL)
/-- RES 1,A (R480). -/
def execRes_1_A (s : State) : Host.Outcome State Fault Refusal :=
  s.onG (GStack.cbRes 1 .a)
/-- RES 2,B (R480). -/
def execRes_2_B (s : State) : Host.Outcome State Fault Refusal :=
  s.onG (GStack.cbRes 2 .b)
/-- RES 2,C (R480). -/
def execRes_2_C (s : State) : Host.Outcome State Fault Refusal :=
  s.onG (GStack.cbRes 2 .c)
/-- RES 2,D (R480). -/
def execRes_2_D (s : State) : Host.Outcome State Fault Refusal :=
  s.onG (GStack.cbRes 2 .d)
/-- RES 2,E (R480). -/
def execRes_2_E (s : State) : Host.Outcome State Fault Refusal :=
  s.onG (GStack.cbRes 2 .e)
/-- RES 2,H (R480). -/
def execRes_2_H (s : State) : Host.Outcome State Fault Refusal :=
  s.onG (GStack.cbRes 2 .h)
/-- RES 2,L (R480). -/
def execRes_2_L (s : State) : Host.Outcome State Fault Refusal :=
  s.onG (GStack.cbRes 2 .l)
/-- RES 2,(HL) (R480). -/
def execRes_2_mHL (s : State) : Host.Outcome State Fault Refusal :=
  s.onG (GStack.cbRes 2 .mHL)
/-- RES 2,A (R480). -/
def execRes_2_A (s : State) : Host.Outcome State Fault Refusal :=
  s.onG (GStack.cbRes 2 .a)
/-- RES 3,B (R480). -/
def execRes_3_B (s : State) : Host.Outcome State Fault Refusal :=
  s.onG (GStack.cbRes 3 .b)
/-- RES 3,C (R480). -/
def execRes_3_C (s : State) : Host.Outcome State Fault Refusal :=
  s.onG (GStack.cbRes 3 .c)
/-- RES 3,D (R480). -/
def execRes_3_D (s : State) : Host.Outcome State Fault Refusal :=
  s.onG (GStack.cbRes 3 .d)
/-- RES 3,E (R480). -/
def execRes_3_E (s : State) : Host.Outcome State Fault Refusal :=
  s.onG (GStack.cbRes 3 .e)
/-- RES 3,H (R480). -/
def execRes_3_H (s : State) : Host.Outcome State Fault Refusal :=
  s.onG (GStack.cbRes 3 .h)
/-- RES 3,L (R480). -/
def execRes_3_L (s : State) : Host.Outcome State Fault Refusal :=
  s.onG (GStack.cbRes 3 .l)
/-- RES 3,(HL) (R480). -/
def execRes_3_mHL (s : State) : Host.Outcome State Fault Refusal :=
  s.onG (GStack.cbRes 3 .mHL)
/-- RES 3,A (R480). -/
def execRes_3_A (s : State) : Host.Outcome State Fault Refusal :=
  s.onG (GStack.cbRes 3 .a)
/-- RES 4,B (R480). -/
def execRes_4_B (s : State) : Host.Outcome State Fault Refusal :=
  s.onG (GStack.cbRes 4 .b)
/-- RES 4,C (R480). -/
def execRes_4_C (s : State) : Host.Outcome State Fault Refusal :=
  s.onG (GStack.cbRes 4 .c)
/-- RES 4,D (R480). -/
def execRes_4_D (s : State) : Host.Outcome State Fault Refusal :=
  s.onG (GStack.cbRes 4 .d)
/-- RES 4,E (R480). -/
def execRes_4_E (s : State) : Host.Outcome State Fault Refusal :=
  s.onG (GStack.cbRes 4 .e)
/-- RES 4,H (R480). -/
def execRes_4_H (s : State) : Host.Outcome State Fault Refusal :=
  s.onG (GStack.cbRes 4 .h)
/-- RES 4,L (R480). -/
def execRes_4_L (s : State) : Host.Outcome State Fault Refusal :=
  s.onG (GStack.cbRes 4 .l)
/-- RES 4,(HL) (R480). -/
def execRes_4_mHL (s : State) : Host.Outcome State Fault Refusal :=
  s.onG (GStack.cbRes 4 .mHL)
/-- RES 4,A (R480). -/
def execRes_4_A (s : State) : Host.Outcome State Fault Refusal :=
  s.onG (GStack.cbRes 4 .a)
/-- RES 5,B (R480). -/
def execRes_5_B (s : State) : Host.Outcome State Fault Refusal :=
  s.onG (GStack.cbRes 5 .b)
/-- RES 5,C (R480). -/
def execRes_5_C (s : State) : Host.Outcome State Fault Refusal :=
  s.onG (GStack.cbRes 5 .c)
/-- RES 5,D (R480). -/
def execRes_5_D (s : State) : Host.Outcome State Fault Refusal :=
  s.onG (GStack.cbRes 5 .d)
/-- RES 5,E (R480). -/
def execRes_5_E (s : State) : Host.Outcome State Fault Refusal :=
  s.onG (GStack.cbRes 5 .e)
/-- RES 5,H (R480). -/
def execRes_5_H (s : State) : Host.Outcome State Fault Refusal :=
  s.onG (GStack.cbRes 5 .h)
/-- RES 5,L (R480). -/
def execRes_5_L (s : State) : Host.Outcome State Fault Refusal :=
  s.onG (GStack.cbRes 5 .l)
/-- RES 5,(HL) (R480). -/
def execRes_5_mHL (s : State) : Host.Outcome State Fault Refusal :=
  s.onG (GStack.cbRes 5 .mHL)
/-- RES 5,A (R480). -/
def execRes_5_A (s : State) : Host.Outcome State Fault Refusal :=
  s.onG (GStack.cbRes 5 .a)
/-- RES 6,B (R480). -/
def execRes_6_B (s : State) : Host.Outcome State Fault Refusal :=
  s.onG (GStack.cbRes 6 .b)
/-- RES 6,C (R480). -/
def execRes_6_C (s : State) : Host.Outcome State Fault Refusal :=
  s.onG (GStack.cbRes 6 .c)
/-- RES 6,D (R480). -/
def execRes_6_D (s : State) : Host.Outcome State Fault Refusal :=
  s.onG (GStack.cbRes 6 .d)
/-- RES 6,E (R480). -/
def execRes_6_E (s : State) : Host.Outcome State Fault Refusal :=
  s.onG (GStack.cbRes 6 .e)
/-- RES 6,H (R480). -/
def execRes_6_H (s : State) : Host.Outcome State Fault Refusal :=
  s.onG (GStack.cbRes 6 .h)
/-- RES 6,L (R480). -/
def execRes_6_L (s : State) : Host.Outcome State Fault Refusal :=
  s.onG (GStack.cbRes 6 .l)
/-- RES 6,(HL) (R480). -/
def execRes_6_mHL (s : State) : Host.Outcome State Fault Refusal :=
  s.onG (GStack.cbRes 6 .mHL)
/-- RES 6,A (R480). -/
def execRes_6_A (s : State) : Host.Outcome State Fault Refusal :=
  s.onG (GStack.cbRes 6 .a)
/-- RES 7,B (R480). -/
def execRes_7_B (s : State) : Host.Outcome State Fault Refusal :=
  s.onG (GStack.cbRes 7 .b)
/-- RES 7,C (R480). -/
def execRes_7_C (s : State) : Host.Outcome State Fault Refusal :=
  s.onG (GStack.cbRes 7 .c)
/-- RES 7,D (R480). -/
def execRes_7_D (s : State) : Host.Outcome State Fault Refusal :=
  s.onG (GStack.cbRes 7 .d)
/-- RES 7,E (R480). -/
def execRes_7_E (s : State) : Host.Outcome State Fault Refusal :=
  s.onG (GStack.cbRes 7 .e)
/-- RES 7,H (R480). -/
def execRes_7_H (s : State) : Host.Outcome State Fault Refusal :=
  s.onG (GStack.cbRes 7 .h)
/-- RES 7,L (R480). -/
def execRes_7_L (s : State) : Host.Outcome State Fault Refusal :=
  s.onG (GStack.cbRes 7 .l)
/-- RES 7,(HL) (R480). -/
def execRes_7_mHL (s : State) : Host.Outcome State Fault Refusal :=
  s.onG (GStack.cbRes 7 .mHL)
/-- RES 7,A (R480). -/
def execRes_7_A (s : State) : Host.Outcome State Fault Refusal :=
  s.onG (GStack.cbRes 7 .a)
/-- SET 0,B (R481). -/
def execSet_0_B (s : State) : Host.Outcome State Fault Refusal :=
  s.onG (GStack.cbSet 0 .b)
/-- SET 0,C (R481). -/
def execSet_0_C (s : State) : Host.Outcome State Fault Refusal :=
  s.onG (GStack.cbSet 0 .c)
/-- SET 0,D (R481). -/
def execSet_0_D (s : State) : Host.Outcome State Fault Refusal :=
  s.onG (GStack.cbSet 0 .d)
/-- SET 0,E (R481). -/
def execSet_0_E (s : State) : Host.Outcome State Fault Refusal :=
  s.onG (GStack.cbSet 0 .e)
/-- SET 0,H (R481). -/
def execSet_0_H (s : State) : Host.Outcome State Fault Refusal :=
  s.onG (GStack.cbSet 0 .h)
/-- SET 0,L (R481). -/
def execSet_0_L (s : State) : Host.Outcome State Fault Refusal :=
  s.onG (GStack.cbSet 0 .l)
/-- SET 0,(HL) (R481). -/
def execSet_0_mHL (s : State) : Host.Outcome State Fault Refusal :=
  s.onG (GStack.cbSet 0 .mHL)
/-- SET 0,A (R481). -/
def execSet_0_A (s : State) : Host.Outcome State Fault Refusal :=
  s.onG (GStack.cbSet 0 .a)
/-- SET 1,B (R481). -/
def execSet_1_B (s : State) : Host.Outcome State Fault Refusal :=
  s.onG (GStack.cbSet 1 .b)
/-- SET 1,C (R481). -/
def execSet_1_C (s : State) : Host.Outcome State Fault Refusal :=
  s.onG (GStack.cbSet 1 .c)
/-- SET 1,D (R481). -/
def execSet_1_D (s : State) : Host.Outcome State Fault Refusal :=
  s.onG (GStack.cbSet 1 .d)
/-- SET 1,E (R481). -/
def execSet_1_E (s : State) : Host.Outcome State Fault Refusal :=
  s.onG (GStack.cbSet 1 .e)
/-- SET 1,H (R481). -/
def execSet_1_H (s : State) : Host.Outcome State Fault Refusal :=
  s.onG (GStack.cbSet 1 .h)
/-- SET 1,L (R481). -/
def execSet_1_L (s : State) : Host.Outcome State Fault Refusal :=
  s.onG (GStack.cbSet 1 .l)
/-- SET 1,(HL) (R481). -/
def execSet_1_mHL (s : State) : Host.Outcome State Fault Refusal :=
  s.onG (GStack.cbSet 1 .mHL)
/-- SET 1,A (R481). -/
def execSet_1_A (s : State) : Host.Outcome State Fault Refusal :=
  s.onG (GStack.cbSet 1 .a)
/-- SET 2,B (R481). -/
def execSet_2_B (s : State) : Host.Outcome State Fault Refusal :=
  s.onG (GStack.cbSet 2 .b)
/-- SET 2,C (R481). -/
def execSet_2_C (s : State) : Host.Outcome State Fault Refusal :=
  s.onG (GStack.cbSet 2 .c)
/-- SET 2,D (R481). -/
def execSet_2_D (s : State) : Host.Outcome State Fault Refusal :=
  s.onG (GStack.cbSet 2 .d)
/-- SET 2,E (R481). -/
def execSet_2_E (s : State) : Host.Outcome State Fault Refusal :=
  s.onG (GStack.cbSet 2 .e)
/-- SET 2,H (R481). -/
def execSet_2_H (s : State) : Host.Outcome State Fault Refusal :=
  s.onG (GStack.cbSet 2 .h)
/-- SET 2,L (R481). -/
def execSet_2_L (s : State) : Host.Outcome State Fault Refusal :=
  s.onG (GStack.cbSet 2 .l)
/-- SET 2,(HL) (R481). -/
def execSet_2_mHL (s : State) : Host.Outcome State Fault Refusal :=
  s.onG (GStack.cbSet 2 .mHL)
/-- SET 2,A (R481). -/
def execSet_2_A (s : State) : Host.Outcome State Fault Refusal :=
  s.onG (GStack.cbSet 2 .a)
/-- SET 3,B (R481). -/
def execSet_3_B (s : State) : Host.Outcome State Fault Refusal :=
  s.onG (GStack.cbSet 3 .b)
/-- SET 3,C (R481). -/
def execSet_3_C (s : State) : Host.Outcome State Fault Refusal :=
  s.onG (GStack.cbSet 3 .c)
/-- SET 3,D (R481). -/
def execSet_3_D (s : State) : Host.Outcome State Fault Refusal :=
  s.onG (GStack.cbSet 3 .d)
/-- SET 3,E (R481). -/
def execSet_3_E (s : State) : Host.Outcome State Fault Refusal :=
  s.onG (GStack.cbSet 3 .e)
/-- SET 3,H (R481). -/
def execSet_3_H (s : State) : Host.Outcome State Fault Refusal :=
  s.onG (GStack.cbSet 3 .h)
/-- SET 3,L (R481). -/
def execSet_3_L (s : State) : Host.Outcome State Fault Refusal :=
  s.onG (GStack.cbSet 3 .l)
/-- SET 3,(HL) (R481). -/
def execSet_3_mHL (s : State) : Host.Outcome State Fault Refusal :=
  s.onG (GStack.cbSet 3 .mHL)
/-- SET 3,A (R481). -/
def execSet_3_A (s : State) : Host.Outcome State Fault Refusal :=
  s.onG (GStack.cbSet 3 .a)
/-- SET 4,B (R481). -/
def execSet_4_B (s : State) : Host.Outcome State Fault Refusal :=
  s.onG (GStack.cbSet 4 .b)
/-- SET 4,C (R481). -/
def execSet_4_C (s : State) : Host.Outcome State Fault Refusal :=
  s.onG (GStack.cbSet 4 .c)
/-- SET 4,D (R481). -/
def execSet_4_D (s : State) : Host.Outcome State Fault Refusal :=
  s.onG (GStack.cbSet 4 .d)
/-- SET 4,E (R481). -/
def execSet_4_E (s : State) : Host.Outcome State Fault Refusal :=
  s.onG (GStack.cbSet 4 .e)
/-- SET 4,H (R481). -/
def execSet_4_H (s : State) : Host.Outcome State Fault Refusal :=
  s.onG (GStack.cbSet 4 .h)
/-- SET 4,L (R481). -/
def execSet_4_L (s : State) : Host.Outcome State Fault Refusal :=
  s.onG (GStack.cbSet 4 .l)
/-- SET 4,(HL) (R481). -/
def execSet_4_mHL (s : State) : Host.Outcome State Fault Refusal :=
  s.onG (GStack.cbSet 4 .mHL)
/-- SET 4,A (R481). -/
def execSet_4_A (s : State) : Host.Outcome State Fault Refusal :=
  s.onG (GStack.cbSet 4 .a)
/-- SET 5,B (R481). -/
def execSet_5_B (s : State) : Host.Outcome State Fault Refusal :=
  s.onG (GStack.cbSet 5 .b)
/-- SET 5,C (R481). -/
def execSet_5_C (s : State) : Host.Outcome State Fault Refusal :=
  s.onG (GStack.cbSet 5 .c)
/-- SET 5,D (R481). -/
def execSet_5_D (s : State) : Host.Outcome State Fault Refusal :=
  s.onG (GStack.cbSet 5 .d)
/-- SET 5,E (R481). -/
def execSet_5_E (s : State) : Host.Outcome State Fault Refusal :=
  s.onG (GStack.cbSet 5 .e)
/-- SET 5,H (R481). -/
def execSet_5_H (s : State) : Host.Outcome State Fault Refusal :=
  s.onG (GStack.cbSet 5 .h)
/-- SET 5,L (R481). -/
def execSet_5_L (s : State) : Host.Outcome State Fault Refusal :=
  s.onG (GStack.cbSet 5 .l)
/-- SET 5,(HL) (R481). -/
def execSet_5_mHL (s : State) : Host.Outcome State Fault Refusal :=
  s.onG (GStack.cbSet 5 .mHL)
/-- SET 5,A (R481). -/
def execSet_5_A (s : State) : Host.Outcome State Fault Refusal :=
  s.onG (GStack.cbSet 5 .a)
/-- SET 6,B (R481). -/
def execSet_6_B (s : State) : Host.Outcome State Fault Refusal :=
  s.onG (GStack.cbSet 6 .b)
/-- SET 6,C (R481). -/
def execSet_6_C (s : State) : Host.Outcome State Fault Refusal :=
  s.onG (GStack.cbSet 6 .c)
/-- SET 6,D (R481). -/
def execSet_6_D (s : State) : Host.Outcome State Fault Refusal :=
  s.onG (GStack.cbSet 6 .d)
/-- SET 6,E (R481). -/
def execSet_6_E (s : State) : Host.Outcome State Fault Refusal :=
  s.onG (GStack.cbSet 6 .e)
/-- SET 6,H (R481). -/
def execSet_6_H (s : State) : Host.Outcome State Fault Refusal :=
  s.onG (GStack.cbSet 6 .h)
/-- SET 6,L (R481). -/
def execSet_6_L (s : State) : Host.Outcome State Fault Refusal :=
  s.onG (GStack.cbSet 6 .l)
/-- SET 6,(HL) (R481). -/
def execSet_6_mHL (s : State) : Host.Outcome State Fault Refusal :=
  s.onG (GStack.cbSet 6 .mHL)
/-- SET 6,A (R481). -/
def execSet_6_A (s : State) : Host.Outcome State Fault Refusal :=
  s.onG (GStack.cbSet 6 .a)
/-- SET 7,B (R481). -/
def execSet_7_B (s : State) : Host.Outcome State Fault Refusal :=
  s.onG (GStack.cbSet 7 .b)
/-- SET 7,C (R481). -/
def execSet_7_C (s : State) : Host.Outcome State Fault Refusal :=
  s.onG (GStack.cbSet 7 .c)
/-- SET 7,D (R481). -/
def execSet_7_D (s : State) : Host.Outcome State Fault Refusal :=
  s.onG (GStack.cbSet 7 .d)
/-- SET 7,E (R481). -/
def execSet_7_E (s : State) : Host.Outcome State Fault Refusal :=
  s.onG (GStack.cbSet 7 .e)
/-- SET 7,H (R481). -/
def execSet_7_H (s : State) : Host.Outcome State Fault Refusal :=
  s.onG (GStack.cbSet 7 .h)
/-- SET 7,L (R481). -/
def execSet_7_L (s : State) : Host.Outcome State Fault Refusal :=
  s.onG (GStack.cbSet 7 .l)
/-- SET 7,(HL) (R481). -/
def execSet_7_mHL (s : State) : Host.Outcome State Fault Refusal :=
  s.onG (GStack.cbSet 7 .mHL)
/-- SET 7,A (R481). -/
def execSet_7_A (s : State) : Host.Outcome State Fault Refusal :=
  s.onG (GStack.cbSet 7 .a)

end Sys2Proof.Machine
end

