-- ==== Sys2Proof/Machine/Step.lean ====
section
/-! DEFINITION. One step: one turn of the frame driver's loop, the CPU's `Step` and then the peripherals by
the cycles it returned (spec/20_memory.md R126; spec/60_exceptions.md R502). -/

namespace Sys2Proof.Machine

/-- The CPU's `Step` (R502): arms 0 to c, or the fetch and the execution of one instruction. -/
def cpuStep (s : State) : Host.Outcome State Fault Refusal :=
  match s.stepHead with
  | .done t => .next t
  | .execute t => exec t.fetch.1 t.fetch.2

/-- One turn of the loop of R126. -/
def step (s : State) : Host.Outcome State Fault Refusal :=
  match cpuStep s with
  | .next t => .next t.finishStep
  | .fault r => .fault r
  | .refused r => .refused r

/-- The state with the instruction of a table word where `step` fetches next, and nothing in the way of it
(assumption log 7). -/
def State.withFetchWord (s : State) (nbits w : Nat) : State := s.placeCode (tableBytes s.stack nbits w)

end Sys2Proof.Machine
end

