-- ==== Sys2Proof/Machine/HostCalls.lean ====
section
/-! DEFINITION. What the host does to a session between two `Step`s (spec/70_reset_and_hazards.md R650 to
R653, R690): construction from a cartridge image, reset, running a frame, buttons, the frame buffer, save
data, and the interrupt inputs of the M6502. -/

namespace Sys2Proof.Machine

/-! ## Reset -/

/-- `Reset()` of the N-stack (R650; R652 for the buttons): the cartridge and its RAM are kept, everything else
is set; `PC` is read through the mapper, the low byte first; the picture unit is advanced by the reset's 7 cycles.
DESIGN CHOICE (assumption log 20): what the Reset does inside the external picture unit is outside the spec (R650),
so the unit keeps what it has seen and sees one event more, the Reset, before that advance; its answers stay free. -/
def NStack.resetOf (n : NStack) : NStack :=
  let n1 : NStack :=
    { n with
      cpu :=
        { a := 0x00, x := 0x00, y := 0x00, s := 0xFD, pc := 0x0000
          p := { n := false, v := false, d := false, i := true, z := false, c := false }
          nmiPending := false, irqLine := false, faulted := false, faultInfo := none }
      dma := { active := false, page := 0x00, index := 0 }
      ram := []
      prgBank := 0x00
      chrBank := 0x00
      joy := { strobe := false, shift0 := 0x00, shift1 := 0x00, buttons0 := 0x00, buttons1 := 0x00 }
      frame := { carry := Config.mIntCycles, count := Config.mIntCycles }
      cycles := 0 }
  let v := n1.readPair NStack.resetVector (NStack.resetVector + 1)
  ({ v.2 with cpu := { v.2.cpu with pc := v.1 } }.portEvent .reset).portEvent (.advance Config.mIntCycles)

/-- `Reset()` of the G-stack (R651): the cartridge and its RAM are kept, everything else inside the block is set.
DESIGN CHOICE (assumption log 20): R651 says nothing of the external audio unit, so the unit keeps what it has seen
and sees one event more, the Reset; its answers stay free. -/
def GStack.resetOf (g : GStack) : GStack :=
  { GStack.reset with
    cart := g.cart
    mem := { GStack.reset.mem with eram := g.mem.eram }
    apuPort := .reset :: g.apuPort }

/-- `Reset()` (R690). -/
def State.resetOf (s : State) : State :=
  match s.stack with
  | .nStack => { s with n := s.n.resetOf }
  | .gStack => { s with g := s.g.resetOf }

/-! ## Construction -/

/-- Why no session comes into existence (R115, R116, R120, R509). -/
inductive LoadError where
  /-- The iNES magic is wrong. -/
  | badMagic
  /-- The header gives no program ROM, or an impossible size. -/
  | badSize
  /-- The image is shorter than the header says. -/
  | truncated
  /-- The mapper or the cartridge type is none of R10. -/
  | unsupportedMapper
  /-- The RAM size code is none of R120. -/
  | unsupportedRam
  deriving DecidableEq, Repr

/-- The overlapping prefix of a save blob in a RAM of `size` bytes, the rest zero (R135). -/
def loadBlob (size : Nat) (save : Option (List Byte)) : Memory :=
  Memory.ofBytes ((save.getD []).take size)

/-- The size of the N-stack's `prg_ram` (R29). -/
def prgRamSize : Nat := 0x2000

/-- The iNES header and the program ROM behind it (R116). -/
def parseINes (image : List Byte) : Except LoadError NCart :=
  let b4 := (image.getD 4 0).toNat
  let b6 := image.getD 6 0
  let b7 := image.getD 7 0
  let mapper : Byte := b7.extractLsb' 4 4 ++ b6.extractLsb' 4 4
  let start := 16 + (if b6.getLsbD 2 then 512 else 0)
  if image.length < 16 then .error .truncated
  else if image.take 4 ≠ [0x4E, 0x45, 0x53, 0x1A] then .error .badMagic
  else if b4 = 0 then .error .badSize
  else if image.length < start + b4 * 0x4000 + (image.getD 5 0).toNat * 0x2000 then .error .truncated
  else
    let cart (m : NMapper) : NCart :=
      { mapper := m
        prgUnits := b4
        chrUnits := (image.getD 5 0).toNat
        mirroring := b6.getLsbD 0
        battery := b6.getLsbD 1
        fourScreen := b6.getLsbD 3
        prgRom := Memory.ofBytes ((image.drop start).take (b4 * 0x4000)) }
    if mapper = 0 then .ok (cart .nrom)
    else if mapper = 2 then .ok (cart .uxrom)
    else if mapper = 3 then .ok (cart .cnrom)
    else .error .unsupportedMapper

/-- The RAM size of a code (R120). -/
def ramSizeOfCode (c : Byte) : Option Nat :=
  if c = 0 then some 0
  else if c = 1 then some 0x800
  else if c = 2 then some 0x2000
  else if c = 3 then some 0x8000
  else none

/-- The G-stack header (R120). -/
def parseGHeader (image : List Byte) : Except LoadError GCart :=
  let type := image.getD 0x147 0
  if image.length % 0x4000 ≠ 0 ∨ image.length < 0x8000 then .error .badSize
  else if ¬ (type = 0 ∨ type = 1 ∨ type = 2 ∨ type = 3) then .error .unsupportedMapper
  else
    match ramSizeOfCode (image.getD 0x149 0) with
    | none => .error .unsupportedRam
    | some size =>
      .ok
        { type := if type = 0 then .romOnly else .mbc1
          romBanks := image.length / 0x4000
          ramSize := if type = 2 ∨ type = 3 then size else 0
          battery := type = 3
          rom := Memory.ofBytes image }

/-- `Construct(rom, save?)` (R653, R690): the session of an image with an external unit `unit`, after reset.
The other stack, which the session never runs, is as in `State.reset`. -/
def construct (st : StackId) (image : List Byte) (save : Option (List Byte)) (unit : Nat) :
    Except LoadError State :=
  match st with
  | .nStack =>
    match parseINes image with
    | .error e => .error e
    | .ok cart =>
      .ok { State.reset with
        stack := .nStack
        n := { NStack.reset with
          cart := cart
          prgRam := loadBlob prgRamSize save
          ppuPort := [.mirroring cart.mirroring, .attach unit] }.resetOf }
  | .gStack =>
    match parseGHeader image with
    | .error e => .error e
    | .ok cart =>
      .ok { State.reset with
        stack := .gStack
        g := { GStack.reset with
          cart := cart
          mem := { GStack.reset.mem with eram := loadBlob cart.ramSize save }
          apuPort := [.attach unit] }.resetOf }

/-! ## The frame -/

/-- The end of a frame after a `Step` that began at `count` and took `c` cycles (R126). -/
def frameEnded (st : StackId) (count c : Nat) : Bool := decide (Config.frameBudget st ≤ count + c)

/-- The driver's count of the session's stack. -/
def State.frameCount (s : State) : Nat :=
  match s.stack with
  | .nStack => s.n.frame.count
  | .gStack => s.g.frame.count

/-- The cycles the session's last `Step` returned. -/
def State.lastCycles (s : State) : Nat :=
  match s.stack with
  | .nStack => s.n.cycles
  | .gStack => s.g.cycles

/-- The loop of `RunFrame()` with at most `fuel` turns (R126): the state, and whether the frame ended by the
fault sentinel. -/
def runFrameLoop : Nat → State → Host.Outcome (State × Bool) Fault Refusal
  | 0, s => .next (s, s.faulted)
  | fuel + 1, s =>
    match step s with
    | .next t =>
      if t.faulted then .next (t, true)
      else if frameEnded s.stack s.frameCount t.lastCycles then .next (t, false)
      else runFrameLoop fuel t
    | .fault r => .fault r
    | .refused r => .refused r

/-- `RunFrame()` (R690). A `Step` that does not fault takes at least 2 cycles (R503), so the budget is fuel
enough. -/
def runFrame (s : State) : Host.Outcome (State × Bool) Fault Refusal :=
  runFrameLoop (Config.frameBudget s.stack) s

/-- `GetFrameBuffer()` of the G-stack (R582, R690): the 144 rows of `front_buffer`; `frame_ready` is
cleared. -/
def GStack.getFrameBuffer (g : GStack) : List (List Shade) × GStack :=
  (g.ppu.frontBuffer.rows, { g with ppu := { g.ppu with frameReady := false } })

/-! ## Inputs -/

/-- `SetButtons(new)` of the G-stack, with the joypad request (R611). -/
def GStack.setButtons (g : GStack) (new : Byte) : GStack :=
  let before := p1Low g.joy.select g.joy.buttons
  let after := p1Low g.joy.select new
  { g with
    joy := { g.joy with buttons := new }
    irq := g.irq.requestIf (before &&& ~~~after != 0) .joypad }

/-- `SetButtons(i, b)` of the N-stack (R84, R690). -/
def NStack.setButtons (n : NStack) (second : Bool) (b : Byte) : NStack :=
  { n with joy := if second then { n.joy with buttons1 := b } else { n.joy with buttons0 := b } }

/-- `SetButtons` of the session's stack (R690); the G-stack has one button byte. -/
def State.setButtons (s : State) (second : Bool) (b : Byte) : State :=
  match s.stack with
  | .nStack => { s with n := s.n.setButtons second b }
  | .gStack => { s with g := s.g.setButtons b }

/-- The environment drives `irq_line` (R621). -/
def NStack.setIrqLine (n : NStack) (level : Bool) : NStack :=
  { n with cpu := { n.cpu with irqLine := level } }

/-- The external picture unit sets `nmi_pending` (R620). -/
def NStack.raiseNmi (n : NStack) : NStack := { n with cpu := { n.cpu with nmiPending := true } }

/-! ## Save data -/

/-- `GetSaveData()`: `prg_ram` or `eram`, verbatim (R135). -/
def State.getSaveData (s : State) : List Byte :=
  match s.stack with
  | .nStack => s.n.prgRam.toBytes prgRamSize
  | .gStack => s.g.mem.eram.toBytes s.g.cart.ramSize

/-- `LoadSave(blob)`: the overlapping prefix, the rest zero (R135). -/
def State.loadSave (s : State) (blob : List Byte) : State :=
  match s.stack with
  | .nStack => { s with n := { s.n with prgRam := loadBlob prgRamSize (some blob) } }
  | .gStack =>
    { s with g := { s.g with mem := { s.g.mem with eram := loadBlob s.g.cart.ramSize (some blob) } } }

end Sys2Proof.Machine
end

