-- ==== Sys2Proof/Safety.lean ====
section
/-! DEFINITION. What counts as a safe run: the invariants that every step keeps, and when a program has
halted (spec/70_reset_and_hazards.md R680). -/

namespace Sys2Proof.Machine

/-- The canonical form of a memory of `size` bytes. -/
def Memory.Ok (m : Memory) (size : Nat) : Prop := m.wf = true ∧ m.below size = true

/-- A picture: canonical, 144 rows at most, each of 160 shades (R55). -/
def Picture.Ok (p : Picture) : Prop :=
  p.wf = true ∧ sparseBelow Config.ppuVisible p = true ∧ ∀ e ∈ p, e.2.length = Config.ppuWidth

/-- What holds of the N-stack in every state that a run reaches. -/
structure NStack.Inv (n : NStack) : Prop where
  ram : n.ram.Ok 0x800
  prgRam : n.prgRam.Ok 0x2000
  prgRom : n.cart.prgRom.Ok (n.cart.prgUnits * 0x4000)
  prgUnits : 1 ≤ n.cart.prgUnits
  /-- `dma_index` is 0 to 256, and below 256 while the transfer runs (R28, R87). -/
  dmaIndex : n.dma.index ≤ Config.mDmaUnits
  dmaActive : n.dma.active = true → n.dma.index < Config.mDmaUnits
  /-- `fault_info` is there exactly when `faulted` (R505). -/
  fault : n.cpu.faultInfo.isSome = n.cpu.faulted
  /-- `frame_carry` is at most 7 (R39). -/
  carry : n.frame.carry ≤ 7
  count : n.frame.count < Config.frameBudget .nStack

/-- The mode that the line and the dot give while the LCD is on (R575, R579). -/
def PpuMode.at (ly dot : Nat) : PpuMode :=
  if ly < Config.ppuVisible then
    if dot < Config.ppuMode2Dots then .oamSearch
    else if dot < Config.ppuMode2Dots + Config.ppuMode3Dots then .transfer
    else .hblank
  else .vblank

/-- What holds of the picture unit in every state that a run reaches. -/
structure GPpu.Inv (p : GPpu) : Prop where
  ly : p.ly.toNat < Config.ppuLines
  dot : p.dot < Config.ppuDots
  /-- The mode follows from the line and the dot (R575 to R579). -/
  modeOn : p.lcdOn = true → p.mode = PpuMode.at p.ly.toNat p.dot
  /-- The LCD off holds the unit at line 0, dot 0, mode 0 (R585). -/
  modeOff : p.lcdOn = false → p.ly = 0 ∧ p.dot = 0 ∧ p.mode = .hblank ∧ p.winLine = 0
  /-- At most ten sprites, each one of the forty (R55, R595). -/
  sprites : p.lineSprites.length ≤ Config.ppuSpritesPerLine
  spriteIndex : ∀ i ∈ p.lineSprites, i < Config.ppuSprites
  framebuffer : p.framebuffer.Ok
  frontBuffer : p.frontBuffer.Ok

/-- What holds of the G-stack in every state that a run reaches. -/
structure GStack.Inv (g : GStack) : Prop where
  vram : g.mem.vram.Ok 0x2000
  wram : g.mem.wram.Ok 0x2000
  oam : g.mem.oam.Ok 160
  hram : g.mem.hram.Ok 127
  eram : g.mem.eram.Ok g.cart.ramSize
  rom : g.cart.rom.Ok (g.cart.romBanks * 0x4000)
  romBanks : 2 ≤ g.cart.romBanks
  /-- `mbc_bank_lo` is never 0 (R122). -/
  bankLo : g.mbc.bankLo ≠ 0
  /-- `dma_index` is 0 to 160, and below 160 while the transfer runs (R37, R101). -/
  dmaIndex : g.dma.index ≤ Config.gDmaUnits
  dmaActive : g.dma.active = true → g.dma.index < Config.gDmaUnits
  /-- `ime_delay` is 0, 1 or 2 (R35). -/
  imeDelay : g.cpu.imeDelay ≤ 2
  /-- `ovf_delay` is 0 to 4 (R56). -/
  ovfDelay : g.timer.ovfDelay ≤ Config.timerReloadDelay
  ppu : g.ppu.Inv
  /-- `fault_info` is there exactly when `faulted` (R505). -/
  fault : g.cpu.faultInfo.isSome = g.cpu.faulted
  /-- `frame_carry` is at most 23 (R39). -/
  carry : g.frame.carry ≤ 23
  count : g.frame.count < Config.frameBudget .gStack

/-- What holds of a session in every state that a run reaches. -/
structure State.Inv (s : State) : Prop where
  n : s.n.Inv
  g : s.g.Inv

/-- The faults that a program can cause: only an illegal opcode (R506). -/
def FaultRecord.illegal (r : FaultRecord) : Bool :=
  match r.cause with
  | .illegalOpcode _ => true
  | .consistencyDma => false

/-! ## When a program has halted (R680) -/

/-- The SM83 sleeps and no enabled request can wake it: halted with `IE` empty, or stopped for ever (R680). -/
def GStack.asleep (g : GStack) : Bool :=
  (g.cpu.halted && g.irq.ieReg == 0) ||
    (g.cpu.stopped && !g.cpu.ime && Config.gStopWake == .never)

/-- The states that a session reaches from `s`: by steps, in which the external units answer what they answer,
and by the host's button presses between them (R690). -/
inductive State.GoesOnTo (s : State) : State → Prop where
  | here : s.GoesOnTo s
  | step {t u : State} : s.GoesOnTo t → step t = .next u → s.GoesOnTo u
  | buttons {t : State} (second : Bool) (b : Byte) : s.GoesOnTo t → s.GoesOnTo (t.setButtons second b)

/-- An interrupt fires at the next `Step`, arm (a) of R502. -/
def State.interruptDue (s : State) : Bool :=
  match s.stack with
  | .nStack => s.n.cpu.nmiPending || (s.n.cpu.irqLine && !s.n.cpu.p.i)
  | .gStack => s.g.cpu.ime && s.g.irq.pending != 0

/-- The core is not halted or stopped; the M6502 never is. -/
def State.awake (s : State) : Bool :=
  match s.stack with
  | .nStack => true
  | .gStack => !s.g.cpu.halted && !s.g.cpu.stopped

/-- The instruction at `PC` is a self-jump (`JMP *`, `JR -2` and every other form and place of one): executed, it
changes nothing, `PC` included, but the cycle count, what reading its own bytes does (R113, R132), and the enable
delay of an EI before it. -/
def State.selfJump (s : State) : Prop :=
  ∃ t, exec s.fetch.1 s.fetch.2 = .next t ∧
    match s.stack with
    | .nStack => t = { s with n := { s.n with
        joy := t.n.joy, ppuPort := t.n.ppuPort, cycles := t.n.cycles } }
    | .gStack => t = { s with g := { s.g with
        cpu := { s.g.cpu with ime := t.g.cpu.ime, imeDelay := t.g.cpu.imeDelay }
        apuPort := t.g.apuPort
        cycles := t.g.cycles } }

/-- The program runs in a self-jump with interrupts unable to fire (R680): in every state that the session reaches
from here a self-jump stands at `PC` and no interrupt is due (assumption log 21). -/
def State.spins (s : State) : Prop :=
  ∀ t, s.GoesOnTo t → t.faulted = false ∧ t.awake = true ∧ t.interruptDue = false ∧ t.selfJump

/-- The program has halted (R680): a fault, an SM83 that nothing but reset wakes, or a self-jump with
interrupts unable to fire. -/
def State.programHalted (s : State) : Prop :=
  s.faulted = true ∨ (s.stack = .gStack ∧ s.g.asleep = true) ∨ s.spins

end Sys2Proof.Machine
end

