-- ==== Sys2Proof/Certificates/Slice0/Obligations.lean ====
section
/-! DEFINITION. The statements for the provers. The helpers under `Sys2Proof.Stated` write the spec's
pseudocode a second time, in numbers where the model works on bits, so that a statement does not repeat a
definition of the model. Unless a docstring says otherwise a statement holds for every state. -/

open Sys2Proof Sys2Proof.Machine

namespace Sys2Proof.Stated

/-- The outcome of an instruction or a step. -/
abbrev Out := Host.Outcome State Fault Refusal

/-! ## Numbers -/

/-- The two halves of a rotate or shift on numbers: the result and the carry out, `cin` the old carry
(spec/48_sm83_cb.md R471 to R478). -/
def rot (op : RotOp) (cin : Bool) (v : Byte) : Byte × Bool :=
  let n := v.toNat
  let i := if cin then 1 else 0
  match op with
  | .rlc => (BitVec.ofNat 8 (2 * n + n / 128), decide (128 ≤ n))
  | .rrc => (BitVec.ofNat 8 (n / 2 + 128 * (n % 2)), decide (n % 2 = 1))
  | .rl => (BitVec.ofNat 8 (2 * n + i), decide (128 ≤ n))
  | .rr => (BitVec.ofNat 8 (n / 2 + 128 * i), decide (n % 2 = 1))
  | .sla => (BitVec.ofNat 8 (2 * n), decide (128 ≤ n))
  | .sra => (BitVec.ofNat 8 (n / 2 + 128 * (n / 128)), decide (n % 2 = 1))
  | .swap => (BitVec.ofNat 8 (16 * (n % 16) + n / 16), false)
  | .srl => (BitVec.ofNat 8 (n / 2), decide (n % 2 = 1))

/-! ## The M6502 -/

/-- The flags with `N` and `Z` of a result (R201). -/
def nz (p : M6502Flags) (v : Byte) : M6502Flags := { p with n := v.msb, z := decide (v = 0) }

/-- The flags after a shift or rotate: `C` of it, `N` and `Z` of the result (R248 to R251). -/
def nzc (p : M6502Flags) (r : Byte × Bool) : M6502Flags := { nz p r.1 with c := r.2 }

/-- The flags byte on the stack as a number, bit 5 set and bit 4 as given (R25). -/
def flagsByte (p : M6502Flags) (b : Bool) : Byte :=
  BitVec.ofNat 8 (128 * p.n.toNat + 64 * p.v.toNat + 32 + 16 * b.toNat + 8 * p.d.toNat + 4 * p.i.toNat +
    2 * p.z.toNat + p.c.toNat)

/-- An M6502 instruction has ended: the registers are `r`, `PC` is `len` bytes past the opcode, `cost` cycles
are charged, everything else is as in `n` (R200). -/
def nEnd (s : State) (n : NStack) (r : M6502) (len cost : Nat) : Out :=
  .next { s with n := { n with cpu := { r with pc := s.n.cpu.pc + BitVec.ofNat 16 len }, cycles := cost } }

/-- The byte of the stack page at `0x0100 + s` (R202); the page lies in `ram` (R75). -/
def slot (s : Byte) : Nat := 0x0100 + s.toNat

/-- The cost of a read instruction: the base cost of its mode, one more if the mode crossed a page
(R156). -/
def readCost (o : Operand) (crossed : Bool) : Nat :=
  let base :=
    match o with
    | .imm _ => 2
    | .zp _ => 3
    | .izy _ => 5
    | .izx _ => 6
    | .zpx _ | .zpy _ | .abs _ | .abx _ | .aby _ => 4
  if crossed then base + 1 else base

/-- The N-stack after three bytes were pushed, the return address and the flags byte, with `I` set and `PC` read
from the program ROM at offset `vector` from 0x8000 (R274, R520, R521). -/
def nEntered (n : NStack) (ret : Word) (b : Bool) (vector : Nat) : NStack :=
  let rom := fun off => n.cart.prgRom.read (n.cart.romOffset n.prgBank off)
  { n with
    ram :=
      ((n.ram.write (slot n.cpu.s) (hiByte ret)).write (slot (n.cpu.s - 1)) (loByte ret)).write
        (slot (n.cpu.s - 2)) (flagsByte n.cpu.p b)
    cpu := { n.cpu with
      s := n.cpu.s - 3, p := { n.cpu.p with i := true }, pc := join (rom (vector + 1)) (rom vector) } }

/-- The addresses an M6502 instruction stores to, in order, computed as its rule computes them
(R202, R206 to R208, R215, R216, R232, R271, R274). -/
def nStores (i : Instr) (n : NStack) : List Word :=
  match i with
  | .sta o | .stx o | .sty o | .inc o | .dec o => [(n.resolve o).ea]
  | .asl (.mem o) | .lsr (.mem o) | .rol (.mem o) | .ror (.mem o) => [(n.resolve o).ea]
  | .pha | .php => [NStack.stackAddr n.cpu.s]
  | .jsr _ => [NStack.stackAddr n.cpu.s, NStack.stackAddr (n.cpu.s - 1)]
  | .brk => [NStack.stackAddr n.cpu.s, NStack.stackAddr (n.cpu.s - 1), NStack.stackAddr (n.cpu.s - 2)]
  | _ => []

/-! ## The SM83 -/

/-- The register that an `r8` field other than `(HL)` names (R165). -/
def reg (r : Sm83) : R8 → Byte
  | .b => r.b
  | .c => r.c
  | .d => r.d
  | .e => r.e
  | .h => r.h
  | .l => r.l
  | .a => r.a
  | .mHL => 0

/-- That register written; nothing for `(HL)`. -/
def putReg (r : Sm83) (v : Byte) : R8 → Sm83
  | .b => { r with b := v }
  | .c => { r with c := v }
  | .d => { r with d := v }
  | .e => { r with e := v }
  | .h => { r with h := v }
  | .l => { r with l := v }
  | .a => { r with a := v }
  | .mHL => r

/-- `HL` (R30). -/
def hl (r : Sm83) : Word := join r.h r.l

/-- The 16-bit register that an `r16` field names (R166). -/
def pair (r : Sm83) : R16 → Word
  | .bc => join r.b r.c
  | .de => join r.d r.e
  | .hl => join r.h r.l
  | .sp => r.sp

/-- That 16-bit register written, the high byte to the first register of the pair (R30). -/
def putPair (r : Sm83) (v : Word) : R16 → Sm83
  | .bc => { r with b := hiByte v, c := loByte v }
  | .de => { r with d := hiByte v, e := loByte v }
  | .hl => { r with h := hiByte v, l := loByte v }
  | .sp => { r with sp := v }

/-- `F` as a number (R33). -/
def fByte (f : Sm83Flags) : Byte :=
  BitVec.ofNat 8 (128 * f.z.toNat + 64 * f.n.toNat + 32 * f.h.toNat + 16 * f.c.toNat)

/-- `Cond(cc)` (R430). -/
def cond (f : Sm83Flags) : Cond → Bool
  | .nz => !f.z
  | .z => f.z
  | .nc => !f.c
  | .c => f.c

/-- What the Operation of an SM83 instruction starts from: `PC` at the next instruction, `cost` cycles charged
(R310 step 4). -/
def gBegin (s : State) (len cost : Nat) : GStack :=
  { s.g with cpu := { s.g.cpu with pc := s.g.cpu.pc + BitVec.ofNat 16 len }, cycles := cost }

/-- An SM83 instruction has ended in `g`: the interrupt-enable delay ticks (R310 step 6). -/
def gEnd (s : State) (g : GStack) : Out :=
  .next { s with g := { g with
    cpu := { g.cpu with ime := g.cpu.ime || decide (g.cpu.imeDelay = 1), imeDelay := g.cpu.imeDelay - 1 } } }

/-- `Push16(v)` (R350). -/
def pushed (g : GStack) (v : Word) : GStack :=
  { (g.write (g.cpu.sp - 1) (hiByte v)).write (g.cpu.sp - 2) (loByte v) with
    cpu := { g.cpu with sp := g.cpu.sp - 2 } }

/-- The first byte of `Pop16()`, the low one, and the stack after its read (R350). -/
def popLo (g : GStack) : Byte × GStack := g.read g.cpu.sp

/-- The second byte of `Pop16()`, the high one, and the stack after both reads. -/
def popHi (g : GStack) : Byte × GStack := (popLo g).2.read (g.cpu.sp + 1)

/-- `PC <- Pop16()`. -/
def returned (g : GStack) : GStack :=
  { (popHi g).2 with cpu := { g.cpu with sp := g.cpu.sp + 2, pc := join (popHi g).1 (popLo g).1 } }

/-- The eight accumulator operations on numbers: the new `A` and the new flags (R370 to R378). -/
def alu (op : AluOp) (cin : Bool) (a m : Byte) : Byte × Sm83Flags :=
  let x := a.toNat
  let y := m.toNat
  let sum := fun (i : Nat) =>
    (BitVec.ofNat 8 (x + y + i),
      ({ z := decide ((x + y + i) % 256 = 0), n := false
         h := decide (16 ≤ x % 16 + y % 16 + i), c := decide (256 ≤ x + y + i) } : Sm83Flags))
  let dif := fun (i : Nat) =>
    (BitVec.ofNat 8 (x + 512 - y - i),
      ({ z := decide ((x + 512 - y - i) % 256 = 0), n := true
         h := decide (x % 16 < y % 16 + i), c := decide (x < y + i) } : Sm83Flags))
  let i := if cin then 1 else 0
  match op with
  | .add => sum 0
  | .adc => sum i
  | .sub => dif 0
  | .sbc => dif i
  | .and => (a &&& m, { z := decide (a &&& m = 0), n := false, h := true, c := false })
  | .xor => (a ^^^ m, { z := decide (a = m), n := false, h := false, c := false })
  | .or => (a ||| m, { z := decide (a = 0 ∧ m = 0), n := false, h := false, c := false })
  | .cp => (a, (dif 0).2)

/-- The address the SM83 stores to through `HL` in an entry of the second table: all but BIT write `(HL)` back
(R470). -/
def cbStores (cbop : Byte) (r : Sm83) : List Word :=
  if cbop.toNat % 8 = 6 ∧ cbop.toNat / 64 ≠ 1 then [hl r] else []

/-- The addresses an SM83 instruction stores to, in order, computed as its rule computes them. -/
def gStores (i : Instr) (r : Sm83) : List Word :=
  let push := [r.sp - 1, r.sp - 2]
  match i with
  | .ld_mBC_A => [join r.b r.c]
  | .ld_mDE_A => [join r.d r.e]
  | .ld_mHLinc_A | .ld_mHLdec_A | .ld_mHL_d8 _ => [hl r]
  | .ld_mHL_B | .ld_mHL_C | .ld_mHL_D | .ld_mHL_E | .ld_mHL_H | .ld_mHL_L | .ld_mHL_A => [hl r]
  | .ldh_ma8_A a => [BitVec.ofNat 16 (0xFF00 + a.toNat)]
  | .ld_mC_A => [BitVec.ofNat 16 (0xFF00 + r.c.toNat)]
  | .ld_ma16_A a => [a]
  | .ld_ma16_SP a => [a, a + 1]
  | .push_BC | .push_DE | .push_HL | .push_AF | .call_a16 _ => push
  | .call_NZ_a16 _ => if cond r.f .nz then push else []
  | .call_Z_a16 _ => if cond r.f .z then push else []
  | .call_NC_a16 _ => if cond r.f .nc then push else []
  | .call_C_a16 _ => if cond r.f .c then push else []
  | .rst_00H | .rst_08H | .rst_10H | .rst_18H | .rst_20H | .rst_28H | .rst_30H | .rst_38H => push
  | .inc_mHL | .dec_mHL => [hl r]
  | .rlc_mHL | .rrc_mHL | .rl_mHL | .rr_mHL | .sla_mHL | .sra_mHL | .swap_mHL | .srl_mHL => [hl r]
  | .res_0_mHL | .res_1_mHL | .res_2_mHL | .res_3_mHL => [hl r]
  | .res_4_mHL | .res_5_mHL | .res_6_mHL | .res_7_mHL => [hl r]
  | .set_0_mHL | .set_1_mHL | .set_2_mHL | .set_3_mHL => [hl r]
  | .set_4_mHL | .set_5_mHL | .set_6_mHL | .set_7_mHL => [hl r]
  | .prefixCB cbop => cbStores cbop r
  | _ => []

/-- Whether a session can execute an instruction at once on the M6502: no fault, no request, no DMA (R502). -/
def nReady (n : NStack) : Prop :=
  n.cpu.faulted = false ∧ n.cpu.nmiPending = false ∧ (n.cpu.irqLine = false ∨ n.cpu.p.i = true) ∧
    n.dma.active = false

/-- The same on the SM83: an interrupt is off or not pending, a halted core has a pending request, a stopped core
has the joypad request (R502, R533, R535). -/
def gReady (g : GStack) : Prop :=
  g.cpu.faulted = false ∧ (g.cpu.ime = false ∨ g.irq.pending = 0) ∧
    (g.cpu.halted = false ∨ g.irq.pending ≠ 0) ∧
    (g.cpu.stopped = false ∨ g.irq.ifReg.getLsbD 4 = true) ∧ g.dma.active = false

/-- Dots since the start of line 0. -/
def ppuPos (p : GPpu) : Nat := p.ly.toNat * 456 + p.dot

/-- Dots until the picture unit next enters line 144. -/
def toVblank (p : GPpu) : Nat := (65664 + 70224 - ppuPos p - 1) % 70224 + 1

end Sys2Proof.Stated

open Sys2Proof.Stated

/-! ## Encoding -/

/-- No bit of an encoding is dropped: the decoder gives back every well-formed instruction from its bytes, with
every operand at every value, and leaves what follows (R142, R160, R164). -/
def Obligations.DecodeOfEncodeGivesBack : Prop :=
  ∀ (i : Instr) (rest : List Byte), WellFormed i = true →
    decode i.stack (encode i ++ rest) = .ok (i, rest)

/-- Every word has one meaning: what decodes is well formed, belongs to the stack, and encodes to the bytes that
were read; the first byte alone fixes how many those are (R140, R163). -/
def Obligations.EncodeOfDecodeGivesBack : Prop :=
  ∀ (st : StackId) (bs : List Byte) (i : Instr) (rest : List Byte), decode st bs = .ok (i, rest) →
    bs = encode i ++ rest ∧ WellFormed i = true ∧ i.stack = st ∧
      ∃ op, bs.head? = some op ∧ (encode i).length = (opRow st op).len

/-- Words written out from the spec's encodings decode to the instructions they stand for. -/
def Obligations.SampleWordsDecode : Prop :=
  decode .nStack [0xA9, 0x80] = .ok (.lda (.imm 0x80), []) ∧
  decode .nStack [0x8D, 0x00, 0x02] = .ok (.sta (.abs 0x0200), []) ∧
  decode .nStack [0x71, 0x10] = .ok (.adc (.izy 0x10), []) ∧
  decode .nStack [0x6C, 0xFF, 0x02] = .ok (.jmp (.ind 0x02FF), []) ∧
  decode .nStack [0x90, 0x02] = .ok (.bcc 0x02, []) ∧
  decode .nStack [0x4A] = .ok (.lsr .acc, []) ∧
  decode .nStack [0xB6, 0x12] = .ok (.ldx (.zpy 0x12), []) ∧
  decode .nStack [0xA7] = .ok (.ill 0xA7, []) ∧
  decode .gStack [0x78] = .ok (.ld_A_B, []) ∧
  decode .gStack [0x21, 0x34, 0x12] = .ok (.ld_HL_d16 0x1234, []) ∧
  decode .gStack [0xF5] = .ok (.push_AF, []) ∧
  decode .gStack [0x9E] = .ok (.sbc_A_mHL, []) ∧
  decode .gStack [0x20, 0xFA] = .ok (.jr_NZ_r8 0xFA, []) ∧
  decode .gStack [0x10, 0x00] = .ok (.stop 0x00, []) ∧
  decode .gStack [0xCB, 0xDE] = .ok (.set_3_mHL, []) ∧
  decode .gStack [0xDD] = .ok (.illegal_DD, [])

/-! ## M6502 instructions -/

/-- R300, R447, R505: exactly 105 M6502 opcodes are undocumented; each decodes to ILL with no operand byte; the
eleven unassigned SM83 opcodes decode to their handlers, also with none. Each raises the fault: the record is
written with `PC` at the opcode, `Step` returns 0, and nothing else changes, not even `ime_delay`. -/
def Obligations.IllegalOpcodesFault : Prop :=
  (undocumentedOpcodes.length = 105 ∧ undocumentedOpcodes.Nodup ∧
    (∀ op b1 b2 : Byte,
      op ∈ undocumentedOpcodes ↔ decodeM6502 op b1 b2 = .ill op) ∧
    (∀ op : Byte, op ∈ undocumentedOpcodes → (opRow .nStack op).len = 1) ∧
    (∀ (op : Byte) (s : State), exec (.ill op) s = .next { s with n := { s.n with
      cpu := { s.n.cpu with
        faulted := true
        faultInfo := some { cause := .illegalOpcode op, pc := s.n.cpu.pc } }
      cycles := 0 } })) ∧
  (∀ e ∈ ([(0xD3, .illegal_D3), (0xDB, .illegal_DB), (0xDD, .illegal_DD), (0xE3, .illegal_E3),
        (0xE4, .illegal_E4), (0xEB, .illegal_EB), (0xEC, .illegal_EC), (0xED, .illegal_ED),
        (0xF4, .illegal_F4), (0xFC, .illegal_FC), (0xFD, .illegal_FD)] : List (Byte × Instr)),
      (opRow .gStack e.1).len = 1 ∧ (∀ b1 b2, decodeSm83 e.1 b1 b2 = e.2) ∧
      ∀ s : State, exec e.2 s = .next { s with g := { s.g with
        cpu := { s.g.cpu with
          faulted := true
          faultInfo := some { cause := .illegalOpcode e.1, pc := s.g.cpu.pc } }
        cycles := 0 } })

/-- R146 to R151, R153, R154: the effective address and the page-cross flag of the eight memory modes that an operand
can have (the pointer of JMP's own indirect mode is in `M6502JumpsAndFlags`), and that computing them changes nothing: the pointers of the indirect modes lie in `ram`. The operand byte is one read at that address. -/
def Obligations.M6502EffectiveAddresses : Prop :=
  ∀ (n : NStack) (b : Byte) (w : Word),
    let x := n.cpu.x.toNat
    let y := n.cpu.y.toNat
    let zp := fun k => n.ram.read ((b.toNat + k) % 256)
    let base := (join (zp 1) (zp 0)).toNat
    let crosses := fun a k => decide (a / 256 ≠ (a + k) % 65536 / 256)
    n.resolve (.zp b) = ⟨BitVec.ofNat 16 b.toNat, false, n⟩ ∧
    n.resolve (.zpx b) = ⟨BitVec.ofNat 16 ((b.toNat + x) % 256), false, n⟩ ∧
    n.resolve (.zpy b) = ⟨BitVec.ofNat 16 ((b.toNat + y) % 256), false, n⟩ ∧
    n.resolve (.abs w) = ⟨w, false, n⟩ ∧
    n.resolve (.abx w) = ⟨BitVec.ofNat 16 (w.toNat + x), crosses w.toNat x, n⟩ ∧
    n.resolve (.aby w) = ⟨BitVec.ofNat 16 (w.toNat + y), crosses w.toNat y, n⟩ ∧
    n.resolve (.izx b) = ⟨join (zp (x + 1)) (zp x), false, n⟩ ∧
    n.resolve (.izy b) = ⟨BitVec.ofNat 16 (base + y), crosses base y, n⟩ ∧
    ∀ o : Operand, o.mode ≠ .imm →
      n.readOperand o =
        ⟨(n.read (n.resolve o).ea).1, (n.resolve o).crossed, (n.read (n.resolve o).ea).2⟩

/-- R201, R203 to R214 (an immediate is the byte the fetch has read, assumption log 4, the model's reading of
R145): LDA, LDX, LDY in every mode complete: one read of the operand, the register, `N` and `Z`; the stores
write the register at the effective address, without reading it, and no flag; the transfers copy a register with
`N` and `Z`, but for TXS, which writes no flag. What it says of an instruction in a mode that no opcode of it has (a
store in the immediate mode, LDX in mode zpx) is the model's choice, assumption log 6. -/
def Obligations.M6502LoadsStoresTransfers : Prop :=
  (∀ (s : State) (o : Operand) (d : Byte),
      let r := s.n.cpu
      let m := s.n.readOperand o
      let v := m.value
      let c := readCost o m.crossed
      s.n.readOperand (.imm d) = ⟨d, false, s.n⟩ ∧
      exec (.lda o) s = nEnd s m.after { r with a := v, p := nz r.p v } o.length c ∧
      exec (.ldx o) s = nEnd s m.after { r with x := v, p := nz r.p v } o.length c ∧
      exec (.ldy o) s = nEnd s m.after { r with y := v, p := nz r.p v } o.length c) ∧
  (∀ (s : State) (o : Operand),
      let n := s.n
      let r := s.n.cpu
      let e := n.resolve o
      let cost := fun v =>
        nEnd s (e.after.write e.ea v) r o.length
          (match o with
            | .imm _ => 2
            | .zp _ => 3
            | .zpx _ | .zpy _ | .abs _ => 4
            | .abx _ | .aby _ => 5
            | .izx _ | .izy _ => 6)
      exec (.sta o) s = cost r.a ∧ exec (.stx o) s = cost r.x ∧ exec (.sty o) s = cost r.y ∧
      exec .tax s = nEnd s n { r with x := r.a, p := nz r.p r.a } 1 2 ∧
      exec .tay s = nEnd s n { r with y := r.a, p := nz r.p r.a } 1 2 ∧
      exec .txa s = nEnd s n { r with a := r.x, p := nz r.p r.x } 1 2 ∧
      exec .tya s = nEnd s n { r with a := r.y, p := nz r.p r.y } 1 2 ∧
      exec .tsx s = nEnd s n { r with x := r.s, p := nz r.p r.s } 1 2 ∧
      exec .txs s = nEnd s n { r with s := r.x } 1 2)

/-- R202, R215 to R218: pushes and pulls work on `ram` in the page 0x0100 with `S` wrapping inside it; PHP pushes the
flags with bits 5 and 4 set, PLP discards those two bits. -/
def Obligations.M6502StackInstructions : Prop :=
  ∀ s : State,
    let n := s.n
    let r := s.n.cpu
    let top := n.ram.read (slot (r.s + 1))
    exec .pha s = nEnd s { n with ram := n.ram.write (slot r.s) r.a } { r with s := r.s - 1 } 1 3 ∧
    exec .php s =
      nEnd s { n with ram := n.ram.write (slot r.s) (flagsByte r.p true) } { r with s := r.s - 1 } 1 3 ∧
    exec .pla s = nEnd s n { r with s := r.s + 1, a := top, p := nz r.p top } 1 4 ∧
    ∃ p : M6502Flags, exec .plp s = nEnd s n { r with s := r.s + 1, p := p } 1 4 ∧
      flagsByte p true = top ||| 0x30

/-- R230, R233, R234: ADC and SBC as arithmetic on numbers, in every mode, whatever `D` holds: `C` is the unsigned
carry (for SBC the absence of a borrow), `V` says that the signed result does not fit in a byte. What it says of the
mode zpy, which no opcode of theirs has, is the model's choice, assumption log 6; of the immediate operand, log 4. -/
def Obligations.M6502AddAndSubtract : Prop :=
  ∀ (s : State) (o : Operand),
    let r := s.n.cpu
    let m := s.n.readOperand o
    let x := m.value
    let i := if r.p.c then 1 else 0
    (∃ v p, exec (.adc o) s = nEnd s m.after { r with a := v, p := p } o.length (readCost o m.crossed) ∧
      v.toNat = (r.a.toNat + x.toNat + i) % 256 ∧
      p = { nz r.p v with
        c := decide (256 ≤ r.a.toNat + x.toNat + i)
        v := decide (r.a.toInt + x.toInt + i < -128 ∨ 127 < r.a.toInt + x.toInt + i) }) ∧
    (∃ v p, exec (.sbc o) s = nEnd s m.after { r with a := v, p := p } o.length (readCost o m.crossed) ∧
      v.toNat = (r.a.toNat + 256 - x.toNat - (1 - i)) % 256 ∧
      p = { nz r.p v with
        c := decide (x.toNat + (1 - i) ≤ r.a.toNat)
        v := decide (r.a.toInt - x.toInt - (1 - i) < -128 ∨ 127 < r.a.toInt - x.toInt - (1 - i)) })

/-- R231, R235 to R241, R244 to R247: the logic, compare and bit-test instructions in every mode, and the counting
of `X` and `Y`: `C` and `V` change only where the rule says. What it says of an instruction in a mode that no opcode
of it has is the model's choice, assumption log 6; of the immediate operand, log 4. -/
def Obligations.M6502LogicCompareCount : Prop :=
  ∀ (s : State) (o : Operand),
    let n := s.n
    let r := s.n.cpu
    let m := s.n.readOperand o
    let v := m.value
    let fin := fun r' => nEnd s m.after r' o.length (readCost o m.crossed)
    let cmp := fun (g : Byte) =>
      fin { r with p := { r.p with
        n := (g - v).msb, z := decide (g = v), c := decide (v.toNat ≤ g.toNat) } }
    exec (.and o) s = fin { r with a := r.a &&& v, p := nz r.p (r.a &&& v) } ∧
    exec (.ora o) s = fin { r with a := r.a ||| v, p := nz r.p (r.a ||| v) } ∧
    exec (.eor o) s = fin { r with a := r.a ^^^ v, p := nz r.p (r.a ^^^ v) } ∧
    exec (.cmp o) s = cmp r.a ∧ exec (.cpx o) s = cmp r.x ∧ exec (.cpy o) s = cmp r.y ∧
    exec (.bit o) s = fin { r with p := { r.p with
      n := decide (128 ≤ v.toNat), v := decide (64 ≤ v.toNat % 128), z := decide (r.a &&& v = 0) } } ∧
    exec .inx s = nEnd s n { r with x := r.x + 1, p := nz r.p (r.x + 1) } 1 2 ∧
    exec .iny s = nEnd s n { r with y := r.y + 1, p := nz r.p (r.y + 1) } 1 2 ∧
    exec .dex s = nEnd s n { r with x := r.x - 1, p := nz r.p (r.x - 1) } 1 2 ∧
    exec .dey s = nEnd s n { r with y := r.y - 1, p := nz r.p (r.y - 1) } 1 2

/-- R232, R242, R243, R248 to R251: the read-modify-write instructions make one read and one write of the effective
address; the shifts also have the accumulator form. The costs and effects in the modes imm, zpy, aby, izx and izy,
which no opcode of theirs has, are the model's choice, assumption log 6. -/
def Obligations.M6502ReadModifyWrite : Prop :=
  ∀ (s : State) (o : Operand),
    let r := s.n.cpu
    let e := s.n.resolve o
    let m := e.after.read e.ea
    let store := fun (v : Byte) (p : M6502Flags) =>
      nEnd s (m.2.write e.ea v) { r with p := p } o.length
        (match o with
          | .imm _ => 2
          | .zp _ => 5
          | .zpx _ | .zpy _ | .abs _ => 6
          | .abx _ | .aby _ | .izx _ | .izy _ => 7)
    let shift := fun op => store (rot op r.p.c m.1).1 (nzc r.p (rot op r.p.c m.1))
    let acc := fun op =>
      nEnd s s.n { r with a := (rot op r.p.c r.a).1, p := nzc r.p (rot op r.p.c r.a) } 1 2
    exec (.inc o) s = store (m.1 + 1) (nz r.p (m.1 + 1)) ∧
    exec (.dec o) s = store (m.1 - 1) (nz r.p (m.1 - 1)) ∧
    exec (.asl (.mem o)) s = shift .sla ∧ exec (.asl .acc) s = acc .sla ∧
    exec (.lsr (.mem o)) s = shift .srl ∧ exec (.lsr .acc) s = acc .srl ∧
    exec (.rol (.mem o)) s = shift .rl ∧ exec (.rol .acc) s = acc .rl ∧
    exec (.ror (.mem o)) s = shift .rr ∧ exec (.ror .acc) s = acc .rr

/-- R260 to R268: the eight branches: 2 cycles not taken, 3 taken, 4 if the target lies in another page than the next
instruction; nothing but `PC` changes. -/
def Obligations.M6502Branches : Prop :=
  ∀ e ∈ ([(.bcc, fun p => !p.c), (.bcs, fun p => p.c), (.bne, fun p => !p.z), (.beq, fun p => p.z),
      (.bpl, fun p => !p.n), (.bmi, fun p => p.n), (.bvc, fun p => !p.v), (.bvs, fun p => p.v)] :
      List ((Byte → Instr) × (M6502Flags → Bool))),
    ∀ (s : State) (d : Byte),
      let r := s.n.cpu
      let npc := r.pc + 2
      let target : Word := BitVec.ofInt 16 (npc.toNat + d.toInt)
      exec (e.1 d) s =
        if e.2 r.p then
          .next { s with n := { s.n with
            cpu := { r with pc := target }
            cycles := if npc.toNat / 256 = target.toNat / 256 then 3 else 4 } }
        else .next { s with n := { s.n with cpu := { r with pc := npc }, cycles := 2 } }

/-- R269 to R272, R275 to R282: jumps and subroutines, whose return address is that of JSR's last byte; the
indirect jump keeps its pointer's page; the flag instructions and NOP. -/
def Obligations.M6502JumpsAndFlags : Prop :=
  ∀ (s : State) (a : Word),
    let n := s.n
    let r := s.n.cpu
    let ret := r.pc + 2
    let lo := n.read a
    let hi := lo.2.read (join (hiByte a) (loByte a + 1))
    exec (.jmp (.abs a)) s = .next { s with n := { n with cpu := { r with pc := a }, cycles := 3 } } ∧
    exec (.jmp (.ind a)) s =
      .next { s with n := { hi.2 with cpu := { r with pc := join hi.1 lo.1 }, cycles := 5 } } ∧
    exec (.jsr a) s = .next { s with n := { n with
      ram := (n.ram.write (slot r.s) (hiByte ret)).write (slot (r.s - 1)) (loByte ret)
      cpu := { r with s := r.s - 2, pc := a }
      cycles := 6 } } ∧
    exec .rts s = .next { s with n := { n with
      cpu := { r with
        s := r.s + 2
        pc := join (n.ram.read (slot (r.s + 2))) (n.ram.read (slot (r.s + 1))) + 1 }
      cycles := 6 } } ∧
    exec .clc s = nEnd s n { r with p := { r.p with c := false } } 1 2 ∧
    exec .sec s = nEnd s n { r with p := { r.p with c := true } } 1 2 ∧
    exec .cli s = nEnd s n { r with p := { r.p with i := false } } 1 2 ∧
    exec .sei s = nEnd s n { r with p := { r.p with i := true } } 1 2 ∧
    exec .cld s = nEnd s n { r with p := { r.p with d := false } } 1 2 ∧
    exec .sed s = nEnd s n { r with p := { r.p with d := true } } 1 2 ∧
    exec .clv s = nEnd s n { r with p := { r.p with v := false } } 1 2 ∧
    exec .nop_6502 s = nEnd s n r 1 2

/-- R273, R274: BRK pushes `PC + 2` and the flags with bit 4 set and goes through the vector at 0xFFFE; RTI restores the
flags from bits 7, 6, 3, 2, 1, 0 of the pulled byte and continues at exactly the pulled address. -/
def Obligations.M6502BreakAndReturn : Prop :=
  ∀ s : State,
    let n := s.n
    let r := s.n.cpu
    exec .brk s = .next { s with n := { nEntered n (r.pc + 2) true 0x7FFE with cycles := 7 } } ∧
    ∃ p : M6502Flags,
      exec .rti s = .next { s with n := { n with
        cpu := { r with
          s := r.s + 3
          p := p
          pc := join (n.ram.read (slot (r.s + 3))) (n.ram.read (slot (r.s + 2))) }
        cycles := 6 } } ∧
      flagsByte p true = n.ram.read (slot (r.s + 1)) ||| 0x30

/-- What M6502 instructions leave alone. An instruction that stores nothing changes the registers, the joypad
shift registers and the record of the picture unit's port at most; one that stores changes no byte of storage but
those its store addresses reach. Neither touches the other machine, the cartridge, the driver, the interrupt
inputs, or (but for ILL) the fault state (R21, R26, R113, R252). -/
def Obligations.M6502InstructionFrame : Prop :=
  ∀ (i : Instr) (s t : State), i.stack = .nStack → exec i s = .next t →
    t.g = s.g ∧ t.stack = s.stack ∧ t.n.cart = s.n.cart ∧ t.n.frame = s.n.frame ∧
    t.n.cpu.nmiPending = s.n.cpu.nmiPending ∧ t.n.cpu.irqLine = s.n.cpu.irqLine ∧
    ((∀ op, i ≠ .ill op) → t.n.cpu.faulted = s.n.cpu.faulted ∧ t.n.cpu.faultInfo = s.n.cpu.faultInfo) ∧
    (nStores i s.n = [] →
      t.n = { s.n with cpu := t.n.cpu, cycles := t.n.cycles, joy := t.n.joy, ppuPort := t.n.ppuPort }) ∧
    ∀ c : NCell, (∀ a ∈ nStores i s.n, s.n.cellOf a ≠ some c) → t.n.peek c = s.n.peek c

/-! ## SM83 instructions -/

/-- R311 to R316: the 49 LD r,r', the 7 LD r,d8, the 7 LD r,(HL), the 7 LD (HL),r and LD (HL),d8, each named by the
fields of its opcode: one register or one byte changes and no flag does. -/
def Obligations.Sm83RegisterLoads : Prop :=
  ∀ (s : State) (dst src : R8) (d b2 : Byte),
    let old := s.g.cpu
    (dst ≠ .mHL → src ≠ .mHL →
      exec (decodeSm83 (0b01#2 ++ dst.field ++ src.field) d b2) s =
        let g := gBegin s 1 4
        gEnd s { g with cpu := putReg g.cpu (reg old src) dst }) ∧
    (dst ≠ .mHL →
      exec (decodeSm83 (0b00#2 ++ dst.field ++ 0b110#3) d b2) s =
        let g := gBegin s 2 8
        gEnd s { g with cpu := putReg g.cpu d dst }) ∧
    (dst ≠ .mHL →
      exec (decodeSm83 (0b01#2 ++ dst.field ++ 0b110#3) d b2) s =
        let g := gBegin s 1 8
        let m := g.read (hl old)
        gEnd s { m.2 with cpu := putReg g.cpu m.1 dst }) ∧
    (src ≠ .mHL →
      exec (decodeSm83 (0b01110#5 ++ src.field) d b2) s =
        gEnd s ((gBegin s 1 8).write (hl old) (reg old src))) ∧
    exec (decodeSm83 0x36 d b2) s = gEnd s ((gBegin s 2 12).write (hl old) d)

/-- R317 to R330: the loads and stores of `A` through `BC`, `DE`, an absolute address, the high page and `HL`, which
the `HL+` and `HL-` forms step after the access; no flag changes. -/
def Obligations.Sm83AccumulatorLoads : Prop :=
  ∀ (s : State) (d : Byte) (w : Word),
    let r := s.g.cpu
    let loadThen := fun (len cost : Nat) (a : Word) (step : Sm83 → Sm83) =>
      let g := gBegin s len cost
      let m := g.read a
      gEnd s { m.2 with cpu := step { g.cpu with a := m.1 } }
    let storeThen := fun (len cost : Nat) (a : Word) (step : Sm83 → Sm83) =>
      let g := gBegin s len cost
      gEnd s { g.write a r.a with cpu := step g.cpu }
    let still := fun (c : Sm83) => c
    let move := fun (k : Int) (c : Sm83) => putPair c (BitVec.ofInt 16 ((hl r).toNat + k)) .hl
    let high := fun (b : Byte) => (BitVec.ofNat 16 (0xFF00 + b.toNat) : Word)
    exec .ld_A_mBC s = loadThen 1 8 (join r.b r.c) still ∧
    exec .ld_A_mDE s = loadThen 1 8 (join r.d r.e) still ∧
    exec .ld_mBC_A s = storeThen 1 8 (join r.b r.c) still ∧
    exec .ld_mDE_A s = storeThen 1 8 (join r.d r.e) still ∧
    exec (.ld_A_ma16 w) s = loadThen 3 16 w still ∧
    exec (.ld_ma16_A w) s = storeThen 3 16 w still ∧
    exec (.ldh_A_ma8 d) s = loadThen 2 12 (high d) still ∧
    exec (.ldh_ma8_A d) s = storeThen 2 12 (high d) still ∧
    exec .ld_A_mC s = loadThen 1 8 (high r.c) still ∧
    exec .ld_mC_A s = storeThen 1 8 (high r.c) still ∧
    exec .ld_mHLinc_A s = storeThen 1 8 (hl r) (move 1) ∧
    exec .ld_A_mHLinc s = loadThen 1 8 (hl r) (move 1) ∧
    exec .ld_mHLdec_A s = storeThen 1 8 (hl r) (move (-1)) ∧
    exec .ld_A_mHLdec s = loadThen 1 8 (hl r) (move (-1))

/-- R350 to R356: the 16-bit loads. LD (a16),SP stores the low byte first and wraps; LD HL,SP+r8 takes its two
carries from the unsigned addition of the raw byte to the low byte of `SP`. PUSH writes the high byte to the
higher address and `SP` ends 2 lower; POP reads the low byte first, and POP AF discards the low nibble. -/
def Obligations.Sm83WordLoadsAndStack : Prop :=
  (∀ (s : State) (rr : R16) (lo hi : Byte) (w : Word),
      let r := s.g.cpu
      (exec (decodeSm83 (0b00#2 ++ rr.field ++ 0b0001#4) lo hi) s =
        let g := gBegin s 3 12
        gEnd s { g with cpu := putPair g.cpu (join hi lo) rr }) ∧
      exec (.ld_ma16_SP w) s =
        gEnd s (((gBegin s 3 20).write w (loByte r.sp)).write (w + 1) (hiByte r.sp)) ∧
      (exec .ld_SP_HL s =
        let g := gBegin s 1 8
        gEnd s { g with cpu := { g.cpu with sp := hl r } }) ∧
      (exec (.ld_HL_SPr8 lo) s =
        let g := gBegin s 2 12
        gEnd s { g with cpu :=
          { putPair g.cpu (BitVec.ofInt 16 (r.sp.toNat + lo.toInt)) .hl with
            f := { z := false, n := false, h := decide (16 ≤ r.sp.toNat % 16 + lo.toNat % 16)
                   c := decide (256 ≤ r.sp.toNat % 256 + lo.toNat) } } })) ∧
  (∀ (s : State) (rr : R16Stk) (b1 b2 : Byte),
      let r := s.g.cpu
      let word :=
        match rr with
        | .bc => join r.b r.c
        | .de => join r.d r.e
        | .hl => join r.h r.l
        | .af => join r.a (fByte r.f)
      let g := gBegin s 1 12
      let lo := (popLo g).1
      let hi := (popHi g).1
      let c := { g.cpu with sp := r.sp + 2 }
      exec (decodeSm83 (0b11#2 ++ rr.field ++ 0b0101#4) b1 b2) s = gEnd s (pushed (gBegin s 1 16) word) ∧
      exec (decodeSm83 (0b11#2 ++ rr.field ++ 0b0001#4) b1 b2) s =
        gEnd s { (popHi g).2 with cpu :=
          match rr with
          | .bc => { c with b := hi, c := lo }
          | .de => { c with d := hi, e := lo }
          | .hl => { c with h := hi, l := lo }
          | .af => { c with
              a := hi
              f := { z := lo.getLsbD 7, n := lo.getLsbD 6, h := lo.getLsbD 5, c := lo.getLsbD 4 } } })

/-- R370 to R378: the eight accumulator operations on a register, on `(HL)` and on an immediate, as arithmetic on
numbers: half-carry and carry are the carries or borrows out of bit 3 and bit 7, with the carry in. -/
def Obligations.Sm83AccumulatorOperations : Prop :=
  ∀ (s : State) (op : AluOp) (src : R8) (d b2 : Byte),
    let r := s.g.cpu
    let fin := fun (g : GStack) (v : Byte) =>
      gEnd s { g with cpu := { g.cpu with a := (alu op r.f.c r.a v).1, f := (alu op r.f.c r.a v).2 } }
    (src ≠ .mHL → exec (decodeSm83 (0b10#2 ++ op.field ++ src.field) d b2) s =
      fin (gBegin s 1 4) (reg r src)) ∧
    exec (decodeSm83 (0b10#2 ++ op.field ++ 0b110#3) d b2) s =
      fin ((gBegin s 1 8).read (hl r)).2 ((gBegin s 1 8).read (hl r)).1 ∧
    exec (decodeSm83 (0b11#2 ++ op.field ++ 0b110#3) d b2) s = fin (gBegin s 2 8) d

/-- R379 to R390: INC and DEC of a register and of `(HL)`, one read and one write, with the carry untouched;
DAA, CPL, SCF, CCF and the four rotates of `A`, which clear `Z` even on a zero result. -/
def Obligations.Sm83CountAndAdjust : Prop :=
  (∀ (s : State) (dst : R8) (b1 b2 : Byte),
      let r := s.g.cpu
      let m := (gBegin s 1 12).read (hl r)
      let up := fun (v : Byte) =>
        { r.f with z := decide (v = 0xFF), n := false, h := decide (v.toNat % 16 = 15) }
      let down := fun (v : Byte) =>
        { r.f with z := decide (v = 1), n := true, h := decide (v.toNat % 16 = 0) }
      let onReg := fun (v : Byte) (f : Sm83Flags) =>
        let g := gBegin s 1 4
        gEnd s { g with cpu := { putReg g.cpu v dst with f := f } }
      let onByte := fun (v : Byte) (f : Sm83Flags) =>
        gEnd s { m.2.write (hl r) v with cpu := { m.2.cpu with f := f } }
      (dst ≠ .mHL →
        exec (decodeSm83 (0b00#2 ++ dst.field ++ 0b100#3) b1 b2) s = onReg (reg r dst + 1) (up (reg r dst)) ∧
        exec (decodeSm83 (0b00#2 ++ dst.field ++ 0b101#3) b1 b2) s = onReg (reg r dst - 1) (down (reg r dst))) ∧
      exec .inc_mHL s = onByte (m.1 + 1) (up m.1) ∧
      exec .dec_mHL s = onByte (m.1 - 1) (down m.1)) ∧
  (∀ s : State,
      let r := s.g.cpu
      let f := s.g.cpu.f
      let fin := fun (v : Byte) (f' : Sm83Flags) =>
        let g := gBegin s 1 4
        gEnd s { g with cpu := { g.cpu with a := v, f := f' } }
      let high := f.c || (!f.n && decide (0x99 < r.a.toNat))
      let low := f.h || (!f.n && decide (9 < r.a.toNat % 16))
      let fix := (if high then 0x60 else 0) + (if low then 0x06 else 0)
      let adj : Byte := if f.n then BitVec.ofNat 8 (r.a.toNat + 256 - fix) else BitVec.ofNat 8 (r.a.toNat + fix)
      let turn := fun op =>
        fin (rot op f.c r.a).1 { z := false, n := false, h := false, c := (rot op f.c r.a).2 }
      exec .daa s = fin adj { f with z := decide (adj = 0), h := false, c := high } ∧
      exec .cpl s = fin (BitVec.ofNat 8 (255 - r.a.toNat)) { f with n := true, h := true } ∧
      exec .scf s = fin r.a { f with n := false, h := false, c := true } ∧
      exec .ccf s = fin r.a { f with n := false, h := false, c := !f.c } ∧
      exec .rlca s = turn .rlc ∧ exec .rrca s = turn .rrc ∧ exec .rla s = turn .rl ∧ exec .rra s = turn .rr)

/-- What DAA is for: after the sum or the difference of two numbers of two decimal digits, with a carry or borrow
in, the adjusted byte holds the decimal digits of the result and `C` the decimal carry or borrow
(R371 to R374, R383). -/
def Obligations.DecimalAdjustGivesDecimalResult : Prop :=
  let bcd := fun (k : Nat) => (BitVec.ofNat 8 (16 * (k / 10) + k % 10) : Byte)
  ∀ (x y : Nat) (cin : Bool), x < 100 → y < 100 →
    let i := if cin then 1 else 0
    let sum := add8 (bcd x) (bcd y) cin
    let dif := sub8 (bcd x) (bcd y) cin
    (daa sum.2 sum.1).1 = bcd ((x + y + i) % 100) ∧ (daa sum.2 sum.1).2.c = decide (100 ≤ x + y + i) ∧
    (daa dif.2 dif.1).1 = bcd ((x + 100 - y - i) % 100) ∧ (daa dif.2 dif.1).2.c = decide (x < y + i)

/-- R410 to R413: the 16-bit additions with their carries out of bits 11 and 15, or 3 and 7; INC rr and DEC rr write no
flag. -/
def Obligations.Sm83WordArithmetic : Prop :=
  ∀ (s : State) (rr : R16) (b1 b2 : Byte),
    let r := s.g.cpu
    let x := (hl r).toNat
    let v := (pair r rr).toNat
    (exec (decodeSm83 (0b00#2 ++ rr.field ++ 0b1001#4) b1 b2) s =
      let g := gBegin s 1 8
      gEnd s { g with cpu := { putPair g.cpu (BitVec.ofNat 16 (x + v)) .hl with
        f := { r.f with n := false, h := decide (4096 ≤ x % 4096 + v % 4096), c := decide (65536 ≤ x + v) } } }) ∧
    (exec (decodeSm83 (0b00#2 ++ rr.field ++ 0b0011#4) b1 b2) s =
      let g := gBegin s 1 8
      gEnd s { g with cpu := putPair g.cpu (BitVec.ofNat 16 (v + 1)) rr }) ∧
    (exec (decodeSm83 (0b00#2 ++ rr.field ++ 0b1011#4) b1 b2) s =
      let g := gBegin s 1 8
      gEnd s { g with cpu := putPair g.cpu (BitVec.ofNat 16 (v + 65535)) rr }) ∧
    (exec (.add_SP_r8 b1) s =
      let g := gBegin s 2 16
      gEnd s { g with cpu := { g.cpu with
        sp := BitVec.ofInt 16 (r.sp.toNat + b1.toInt)
        f := { z := false, n := false, h := decide (16 ≤ r.sp.toNat % 16 + b1.toNat % 16)
               c := decide (256 ≤ r.sp.toNat % 256 + b1.toNat) } } })

/-- R430 to R441: jumps, calls, returns and restarts, conditional and not. A transfer that is not taken only advances
`PC`, at the lower cost; `F` never changes. RETI sets `IME` at once. -/
def Obligations.Sm83ControlTransfers : Prop :=
  ∀ (s : State) (cc : Cond) (t : BitVec 3) (lo hi : Byte),
    let r := s.g.cpu
    let a := join hi lo
    let ifTaken := fun (x y : Out) => if cond r.f cc then x else y
    let go := fun (g : GStack) (w : Word) => gEnd s { g with cpu := { g.cpu with pc := w } }
    let call := fun (len cost : Nat) (w : Word) => go (pushed (gBegin s len cost) (r.pc + BitVec.ofNat 16 len)) w
    let rel : Word := BitVec.ofInt 16 ((r.pc + 2).toNat + lo.toInt)
    exec (.jp_a16 a) s = go (gBegin s 3 16) a ∧
    exec (decodeSm83 (0b110#3 ++ cc.field ++ 0b010#3) lo hi) s =
      ifTaken (go (gBegin s 3 16) a) (gEnd s (gBegin s 3 12)) ∧
    exec .jp_HL s = go (gBegin s 1 4) (hl r) ∧
    exec (.jr_r8 lo) s = go (gBegin s 2 12) rel ∧
    exec (decodeSm83 (0b001#3 ++ cc.field ++ 0b000#3) lo hi) s =
      ifTaken (go (gBegin s 2 12) rel) (gEnd s (gBegin s 2 8)) ∧
    exec (.call_a16 a) s = call 3 24 a ∧
    exec (decodeSm83 (0b110#3 ++ cc.field ++ 0b100#3) lo hi) s =
      ifTaken (call 3 24 a) (gEnd s (gBegin s 3 12)) ∧
    exec .ret s = gEnd s (returned (gBegin s 1 16)) ∧
    exec (decodeSm83 (0b110#3 ++ cc.field ++ 0b000#3) lo hi) s =
      ifTaken (gEnd s (returned (gBegin s 1 20))) (gEnd s (gBegin s 1 8)) ∧
    (exec .reti s =
      let g := returned (gBegin s 1 16)
      gEnd s { g with cpu := { g.cpu with ime := true, imeDelay := 0 } }) ∧
    exec (decodeSm83 (0b11#2 ++ t ++ 0b111#3) lo hi) s = call 1 16 (BitVec.ofNat 16 (8 * t.toNat))

/-- R442 to R446: NOP, HALT, STOP, whose padding byte is skipped whatever it is, DI and EI. The base table's PREFIX CB row
is no instruction by itself; with its second byte it is the entry that byte selects (R448; that it has a meaning at all
is the model's choice, assumption log 12). -/
def Obligations.Sm83CpuControl : Prop :=
  ∀ (s : State) (pad cbop b2 : Byte),
    let g := gBegin s 1 4
    let g2 := gBegin s 2 4
    exec .nop_sm83 s = gEnd s g ∧
    exec .halt s = gEnd s { g with cpu := { g.cpu with halted := true } } ∧
    exec (.stop pad) s = gEnd s { g2 with cpu := { g2.cpu with stopped := true } } ∧
    exec .di s = gEnd s { g with cpu := { g.cpu with ime := false, imeDelay := 0 } } ∧
    exec .ei s = gEnd s { g with cpu := { g.cpu with
      imeDelay := if s.g.cpu.imeDelay = 0 then 2 else s.g.cpu.imeDelay } } ∧
    exec (.prefixCB cbop) s = exec (decodeSm83 0xCB cbop b2) s

/-- R470 to R481: all 256 entries of the second table, by the fields of their second byte: rotates and shifts with `Z`
computed, BIT without a write, RES and SET without a flag; 8 cycles, 16 with `(HL)`, 12 for BIT on `(HL)`. -/
def Obligations.Sm83SecondTable : Prop :=
  ∀ (s : State) (op : RotOp) (y : BitVec 3) (z : R8) (b2 : Byte),
    let r := s.g.cpu
    let mem := decide (z = .mHL)
    let v := fun cost => if mem then (gBegin s 2 cost).read (hl r) else (reg r z, gBegin s 2 cost)
    let put := fun (g : GStack) (x : Byte) =>
      if mem then g.write (hl r) x else { g with cpu := putReg g.cpu x z }
    let cost := if mem then 16 else 8
    let w := v cost
    let t := v (if mem then 12 else 8)
    let set := fun (f : Sm83Flags) (g : GStack) => gEnd s { g with cpu := { g.cpu with f := f } }
    let entry := fun (cbop : Byte) (o : Out) => exec (decodeSm83 0xCB cbop b2) s = o
    let bit := fun (x : Byte) => decide (x.toNat / 2 ^ y.toNat % 2 = 1)
    entry (0b00#2 ++ op.field ++ z.field)
      (set { z := decide ((rot op r.f.c w.1).1 = 0), n := false, h := false, c := (rot op r.f.c w.1).2 }
        (put w.2 (rot op r.f.c w.1).1)) ∧
    entry (0b01#2 ++ y ++ z.field) (set { r.f with z := !bit t.1, n := false, h := true } t.2) ∧
    entry (0b10#2 ++ y ++ z.field)
      (gEnd s (put w.2 (if bit w.1 then BitVec.ofNat 8 (w.1.toNat - 2 ^ y.toNat) else w.1))) ∧
    entry (0b11#2 ++ y ++ z.field)
      (gEnd s (put w.2 (if bit w.1 then w.1 else BitVec.ofNat 8 (w.1.toNat + 2 ^ y.toNat))))

/-- What SM83 instructions leave alone. One that stores nothing changes the registers and the record of the audio
unit's port at most; one that stores changes no byte of storage but those its store addresses reach. Neither
touches the other machine, the cartridge or the driver, and none but the illegal opcodes the fault state
(R21, R113). -/
def Obligations.Sm83InstructionFrame : Prop :=
  ∀ (i : Instr) (s t : State), i.stack = .gStack → exec i s = .next t →
    t.n = s.n ∧ t.stack = s.stack ∧ t.g.cart = s.g.cart ∧ t.g.frame = s.g.frame ∧
    (t.g.cycles ≠ 0 → t.g.cpu.faulted = s.g.cpu.faulted ∧ t.g.cpu.faultInfo = s.g.cpu.faultInfo) ∧
    (gStores i s.g.cpu = [] →
      t.g = { s.g with cpu := t.g.cpu, cycles := t.g.cycles, apuPort := t.g.apuPort }) ∧
    ∀ c : GCell, (∀ a ∈ gStores i s.g.cpu, s.g.cellOf .cpu a ≠ some c) → t.g.peek c = s.g.peek c

/-- R34, R35, R446, R532: the enable delay. EI arms it; the instruction after EI, whichever it is, ends with `IME` set
and the delay over, but for DI, which cancels it, and for an illegal opcode, which faults. -/
def Obligations.EiTakesEffectOneInstructionLater : Prop :=
  ∀ (i : Instr) (s t : State), exec .ei s = .next t → s.g.cpu.imeDelay = 0 →
    t.g.cpu.imeDelay = 1 ∧ t.g.cpu.ime = s.g.cpu.ime ∧
    (i.stack = .gStack → ∀ u : State, exec i t = .next u →
      (i ≠ .di → u.g.cycles ≠ 0 → u.g.cpu.ime = true ∧ u.g.cpu.imeDelay = 0) ∧
      (i = .di → u.g.cpu.ime = false ∧ u.g.cpu.imeDelay = 0))

/-! ## The bus -/

/-- R72: what a store puts in storage the next read of the same address returns, at every storage address of both
maps that is open to the CPU. -/
def Obligations.ReadAfterWriteOfStorage : Prop :=
  (∀ (n : NStack) (a : Word) (v : Byte), n.Inv →
    a.toNat < 0x2000 ∨ (0x6000 ≤ a.toNat ∧ a.toNat < 0x8000) →
    (n.write a v).read a = (v, n.write a v)) ∧
  (∀ (g : GStack) (a : Word) (v : Byte), g.Inv →
    (0x8000 ≤ a.toNat ∧ a.toNat < 0xA000 ∧ g.vramBlocked = false) ∨
    (0xA000 ≤ a.toNat ∧ a.toNat < 0xC000 ∧ g.cart.ramSize ≠ 0 ∧ g.mbc.ramEnable = true) ∨
    (0xC000 ≤ a.toNat ∧ a.toNat < 0xFE00) ∨
    (0xFE00 ≤ a.toNat ∧ a.toNat < 0xFEA0 ∧ g.oamBlocked = false) ∨
    (0xFF80 ≤ a.toNat ∧ a.toNat < 0xFFFF) →
    (g.write a v).read a = (v, g.write a v))

/-- R73, R71, R83: a mirror is its canonical address, for reads and writes, with all side effects: RAM and the
picture port on the N-stack, work RAM on the G-stack. Every address that no row of a map claims reads as the
open-bus value, 0x00 on the N-stack and 0xFF on the G-stack, and a write to it does nothing; so does a write to
0x4017. -/
def Obligations.MirrorsAndUnclaimedAddresses : Prop :=
  ((∀ (n : NStack) (a : Word) (v : Byte), a.toNat < 0x2000 →
      n.read a = n.read (a &&& 0x07FF) ∧ n.write a v = n.write (a &&& 0x07FF) v) ∧
    (∀ (n : NStack) (a : Word) (v : Byte), 0x2000 ≤ a.toNat → a.toNat < 0x4000 →
      n.read a = n.read (0x2000 + (a &&& 7)) ∧ n.write a v = n.write (0x2000 + (a &&& 7)) v) ∧
    (∀ (m : BusMaster) (g : GStack) (a : Word) (v : Byte), 0xE000 ≤ a.toNat → a.toNat < 0xFE00 →
      GStack.readAs m g a = GStack.readAs m g (a - 0x2000) ∧ g.write a v = g.write (a - 0x2000) v)) ∧
  ((∀ (n : NStack) (a : Word) (v : Byte), 0x4000 ≤ a.toNat → a.toNat < 0x6000 →
      (a.toNat ≠ 0x4014 → a.toNat ≠ 0x4016 → n.write a v = n) ∧
      (a.toNat ≠ 0x4016 → a.toNat ≠ 0x4017 → n.read a = (0x00, n))) ∧
    (∀ (g : GStack) (a : Word) (v : Byte),
      (0xFEA0 ≤ a.toNat ∧ a.toNat < 0xFF00) ∨ (0xFF01 ≤ a.toNat ∧ a.toNat ≤ 0xFF03) ∨
      (0xFF08 ≤ a.toNat ∧ a.toNat ≤ 0xFF0E) ∨ (0xFF4C ≤ a.toNat ∧ a.toNat ≤ 0xFF7F) →
      g.read a = (0xFF, g) ∧ g.write a v = g))

/-- What one bus access can change: a read only a joypad register or the record of an external port (R113); a write no
register of the core, no part of the cartridge or the driver, and no byte of storage but the one its address
reaches. R80, R98: an access in the range of an external port is forwarded to it, the register number of the mirrored
N-stack port with it: the unit's record of what it has seen gains that event, nothing else changes, and a read answers
the unit's byte, a free value of the record before it (the record is the model's own form, assumption log 1). -/
def Obligations.BusAccessFrame : Prop :=
  (∀ (n : NStack) (a : Word),
    (n.read a).2 = { n with joy := (n.read a).2.joy, ppuPort := (n.read a).2.ppuPort } ∧
    (a.toNat < 0x2000 ∨ 0x4000 ≤ a.toNat → (n.read a).2.ppuPort = n.ppuPort) ∧
    (0x2000 ≤ a.toNat → a.toNat < 0x4000 →
      let i := BitVec.ofNat 16 (a.toNat % 8)
      n.read a = (Config.ppuPortRead n.ppuPort i, { n with ppuPort := .read i :: n.ppuPort }) ∧
      ∀ v, n.write a v = { n with ppuPort := .write i v :: n.ppuPort }) ∧
    (a.toNat ≠ 0x4016 → a.toNat ≠ 0x4017 → (n.read a).2.joy = n.joy)) ∧
  (∀ (n : NStack) (a : Word) (v : Byte),
    (n.write a v).cpu = n.cpu ∧ (n.write a v).cart = n.cart ∧ (n.write a v).frame = n.frame ∧
    (n.write a v).cycles = n.cycles ∧
    ∀ c : NCell, n.cellOf a ≠ some c → (n.write a v).peek c = n.peek c) ∧
  (∀ (m : BusMaster) (g : GStack) (a : Word),
    (GStack.readAs m g a).2 = { g with apuPort := (GStack.readAs m g a).2.apuPort } ∧
    (a.toNat < 0xFF10 ∨ 0xFF40 ≤ a.toNat → (GStack.readAs m g a).2 = g) ∧
    (0xFF10 ≤ a.toNat → a.toNat < 0xFF40 →
      GStack.readAs m g a = (Config.apuPortRead g.apuPort a, { g with apuPort := .read a :: g.apuPort }) ∧
      ∀ v, g.write a v = { g with apuPort := .write a v :: g.apuPort })) ∧
  (∀ (g : GStack) (a : Word) (v : Byte),
    (g.write a v).cpu = g.cpu ∧ (g.write a v).cart = g.cart ∧ (g.write a v).frame = g.frame ∧
    (g.write a v).cycles = g.cycles ∧
    ∀ c : GCell, g.cellOf .cpu a ≠ some c → (g.write a v).peek c = g.peek c)

/-- R106, R107: while the LCD is on, VRAM is closed to the CPU in mode 3 and OAM in modes 2 and 3: a read gives 0xFF
and a write is dropped; otherwise both are plain storage. The renderer reads both whatever the mode is. -/
def Obligations.VideoMemoryArbitration : Prop :=
  ∀ (g : GStack) (a : Word) (v : Byte),
    (0x8000 ≤ a.toNat → a.toNat < 0xA000 →
      if g.ppu.lcdc.msb = true ∧ g.ppu.mode = .transfer then g.read a = (0xFF, g) ∧ g.write a v = g
      else
        g.read a = (g.mem.vram.read (a.toNat - 0x8000), g) ∧
        g.write a v = { g with mem := { g.mem with vram := g.mem.vram.write (a.toNat - 0x8000) v } }) ∧
    (0xFE00 ≤ a.toNat → a.toNat < 0xFEA0 →
      if g.ppu.lcdc.msb = true ∧ (g.ppu.mode = .oamSearch ∨ g.ppu.mode = .transfer) then
        g.read a = (0xFF, g) ∧ g.write a v = g
      else
        g.read a = (g.mem.oam.read (a.toNat - 0xFE00), g) ∧
        g.write a v = { g with mem := { g.mem with oam := g.mem.oam.write (a.toNat - 0xFE00) v } }) ∧
    ∀ (vram oam : Memory) (ly : Nat) (sprites : List Nat) (m : PpuMode),
      ({ g.ppu with mode := m } : GPpu).renderRow vram oam ly sprites = g.ppu.renderRow vram oam ly sprites ∧
      ({ g.ppu with mode := m } : GPpu).selectSprites oam ly = g.ppu.selectSprites oam ly

/-- R44, R45, R96, R531, R565 to R568: the timer and interrupt registers on the bus. Bits the hardware fixes read as 1
and ignore writes; a write to DIV or TIMA cancels a pending reload. -/
def Obligations.TimerAndInterruptRegisters : Prop :=
  ∀ (g : GStack) (v : Byte),
    let t := g.timer
    g.read 0xFF04 = (BitVec.ofNat 8 (t.div16.toNat / 256), g) ∧
    g.read 0xFF05 = (t.tima, g) ∧ g.read 0xFF06 = (t.tma, g) ∧
    g.read 0xFF07 = (BitVec.ofNat 8 (0xF8 + t.tac.toNat), g) ∧
    g.read 0xFF0F = (BitVec.ofNat 8 (0xE0 + g.irq.ifReg.toNat), g) ∧
    g.read 0xFFFF = (BitVec.ofNat 8 (0xE0 + g.irq.ieReg.toNat), g) ∧
    g.write 0xFF04 v = { g with timer := { t with div16 := 0, ovfDelay := 0 } } ∧
    g.write 0xFF05 v = { g with timer := { t with tima := v, ovfDelay := 0 } } ∧
    g.write 0xFF06 v = { g with timer := { t with tma := v } } ∧
    g.write 0xFF07 v = { g with timer := { t with tac := BitVec.ofNat 3 v.toNat } } ∧
    g.write 0xFF0F v = { g with irq := { g.irq with ifReg := BitVec.ofNat 5 v.toNat } } ∧
    g.write 0xFFFF v = { g with irq := { g.irq with ieReg := BitVec.ofNat 5 v.toNat } }

/-- R47 to R49, R51, R97, R100, R584, R585: the picture unit's registers on the bus: STAT reads bit 7 as 1 and
its coincidence bit from `LY` and `LYC`, a write reaches bits 6 to 3 only, and a write to LY does nothing. A
write of LCDC that does not change bit 7 changes LCDC alone; switching the LCD off puts the unit at line 0, dot
0, mode 0 and keeps both buffers; switching it on enters line 0 in mode 2 with the two request points of that
line. -/
def Obligations.PictureRegistersAndLcdSwitching : Prop :=
  (∀ (g : GStack) (v : Byte),
      let p := g.ppu
      g.read 0xFF40 = (p.lcdc, g) ∧
      g.read 0xFF41 =
        (BitVec.ofNat 8 (128 + 8 * p.statSel.toNat + (if p.ly = p.lyc then 4 else 0) +
          (match p.mode with
            | .hblank => 0
            | .vblank => 1
            | .oamSearch => 2
            | .transfer => 3)), g) ∧
      g.read 0xFF42 = (p.scy, g) ∧ g.read 0xFF43 = (p.scx, g) ∧ g.read 0xFF44 = (p.ly, g) ∧
      g.read 0xFF45 = (p.lyc, g) ∧ g.read 0xFF46 = (g.dma.src, g) ∧ g.read 0xFF47 = (p.bgp, g) ∧
      g.read 0xFF48 = (p.obp0, g) ∧ g.read 0xFF49 = (p.obp1, g) ∧ g.read 0xFF4A = (p.wy, g) ∧
      g.read 0xFF4B = (p.wx, g) ∧
      (v.msb = p.lcdc.msb → g.write 0xFF40 v = { g with ppu := { p with lcdc := v } }) ∧
      g.write 0xFF41 v = { g with ppu := { p with statSel := BitVec.ofNat 4 (v.toNat / 8) } } ∧
      g.write 0xFF42 v = { g with ppu := { p with scy := v } } ∧
      g.write 0xFF43 v = { g with ppu := { p with scx := v } } ∧
      g.write 0xFF44 v = g ∧
      g.write 0xFF45 v = { g with ppu := { p with lyc := v } } ∧
      g.write 0xFF46 v = { g with dma := { active := true, src := v, index := 0 } } ∧
      g.write 0xFF47 v = { g with ppu := { p with bgp := v } } ∧
      g.write 0xFF48 v = { g with ppu := { p with obp0 := v } } ∧
      g.write 0xFF49 v = { g with ppu := { p with obp1 := v } } ∧
      g.write 0xFF4A v = { g with ppu := { p with wy := v } } ∧
      g.write 0xFF4B v = { g with ppu := { p with wx := v } }) ∧
  (∀ (g : GStack) (v : Byte),
      let p := g.ppu
      (p.lcdc.msb = true → v.msb = false →
        g.write 0xFF40 v = { g with ppu :=
          { p with lcdc := v, ly := 0, dot := 0, mode := .hblank, winLine := 0 } }) ∧
      (p.lcdc.msb = false → v.msb = true →
        g.write 0xFF40 v = { g with
          ppu := { p with lcdc := v, ly := 0, dot := 0, mode := .oamSearch, winLine := 0 }
          irq := { g.irq with ifReg := g.irq.ifReg |||
            (if p.statSel.getLsbD 2 = true ∨ (p.lyc = 0 ∧ p.statSel.getLsbD 3 = true) then 0b00010 else 0) } }))

/-- R117 to R119, R121 to R123: the three N-stack mappers: what a read of 0x8000 to 0xFFFF answers and what a
write does. The G-stack cartridge: the two ROM windows, the four bank-select registers with the zero-to-one
adjustment of the low bank, and the cartridge RAM, which reads 0xFF and ignores writes when absent or disabled. -/
def Obligations.CartridgeBanks : Prop :=
  (∀ (n : NStack) (a : Word) (v : Byte), 0x8000 ≤ a.toNat →
      let rom := fun off => (n.cart.prgRom.read off, n)
      let units := n.cart.prgUnits
      (n.cart.mapper = .nrom →
        n.read a = rom ((a.toNat - 0x8000) % (units * 16384)) ∧ n.write a v = n) ∧
      (n.cart.mapper = .uxrom →
        n.read a = (if a.toNat < 0xC000 then rom (n.prgBank.toNat % units * 16384 + (a.toNat - 0x8000))
          else rom ((units - 1) * 16384 + (a.toNat - 0xC000))) ∧
        n.write a v = { n with prgBank := v }) ∧
      (n.cart.mapper = .cnrom →
        n.read a = rom ((a.toNat - 0x8000) % (units * 16384)) ∧
        n.write a v = { n with chrBank := v, ppuPort := (n.write a v).ppuPort })) ∧
  (∀ (g : GStack) (a : Word) (v : Byte),
      let x := a.toNat
      let banks := g.cart.romBanks
      let lo := if g.cart.type = .mbc1 ∧ g.mbc.mode = true then g.mbc.bankHi.toNat * 32 % banks else 0
      let hi := if g.cart.type = .mbc1 then (g.mbc.bankHi.toNat * 32 + g.mbc.bankLo.toNat) % banks else 1
      let off := ((if g.mbc.mode then g.mbc.bankHi.toNat else 0) * 8192 + (x - 0xA000)) % g.cart.ramSize
      (x < 0x4000 → g.read a = (g.cart.rom.read (lo * 16384 + x), g)) ∧
      (0x4000 ≤ x → x < 0x8000 → g.read a = (g.cart.rom.read (hi * 16384 + (x - 0x4000)), g)) ∧
      (x < 0x8000 → g.cart.type = .romOnly → g.write a v = g) ∧
      (x < 0x8000 → g.cart.type = .mbc1 → g.write a v = { g with mbc :=
        if x < 0x2000 then { g.mbc with ramEnable := decide (v.toNat % 16 = 10) }
        else if x < 0x4000 then
          { g.mbc with bankLo := if v.toNat % 32 = 0 then 1 else BitVec.ofNat 5 v.toNat }
        else if x < 0x6000 then { g.mbc with bankHi := BitVec.ofNat 2 v.toNat }
        else { g.mbc with mode := decide (v.toNat % 2 = 1) } }) ∧
      (0xA000 ≤ x → x < 0xC000 →
        if g.cart.ramSize = 0 ∨ g.mbc.ramEnable = false then g.read a = (0xFF, g) ∧ g.write a v = g
        else
          g.read a = (g.mem.eram.read off, g) ∧
          g.write a v = { g with mem := { g.mem with eram := g.mem.eram.write off v } }))

/-- R124, R600: no access leaves a buffer: every bank and RAM offset lies in the cartridge for every register value,
and every `vram` and `oam` offset the renderer forms lies in those memories: the tile numbers of the maps, the tile
data of the background and of the sprites, the entries of the chosen sprites; so a drawn line depends on those 8192 and
160 bytes alone. Every colour index is 0 to 3. -/
def Obligations.ComputedOffsetsStayInRange : Prop :=
  (∀ (c : NCart) (bank : Byte) (off : Nat), 1 ≤ c.prgUnits → off < 0x8000 →
    c.romOffset bank off < c.prgUnits * 16384) ∧
  (∀ (g : GStack) (a : Nat), 2 ≤ g.cart.romBanks → a < 0x8000 → g.romOffset a < g.cart.romBanks * 16384) ∧
  (∀ (g : GStack) (off : Nat), g.cart.ramSize ≠ 0 → g.eramOffset off < g.cart.ramSize) ∧
  (∀ (p : GPpu) (t : Byte) (row : Nat), row < 8 → p.bgTileAddr t + 2 * row + 1 < 0x2000) ∧
  (∀ (p : GPpu) (vram : Memory) (base mx my : Nat), base = 0x1800 ∨ base = 0x1C00 → mx < 256 → my < 256 →
    p.mapPixel vram base mx my =
      GPpu.tilePixel vram (p.bgTileAddr (vram.read (GPpu.mapOffset base mx my))) (mx % 8) (my % 8) ∧
    0x1800 ≤ GPpu.mapOffset base mx my ∧ GPpu.mapOffset base mx my < 0x2000) ∧
  (∀ (p : GPpu) (oam : Memory) (ly i : Nat), i ∈ p.selectSprites oam ly →
    4 * i + 3 < 160 ∧ p.spriteRow oam ly i < p.spriteHeight ∧
    p.spriteTileAddr oam i + 2 * p.spriteRow oam ly i + 1 < 0x1000) ∧
  (∀ (p : GPpu) (vram vram' oam oam' : Memory) (ly : Nat),
    (∀ k < 0x2000, vram.read k = vram'.read k) → (∀ k < 160, oam.read k = oam'.read k) →
    p.renderLine vram oam ly = p.renderLine vram' oam' ly) ∧
  (∀ (vram : Memory) (addr col row : Nat), GPpu.tilePixel vram addr col row < 4)

/-- R84, R610, R611: on the N-stack, while the strobe is 1 a read gives button A and nothing shifts; after it
falls, eight reads give the eight buttons from bit 0 up and every later read gives 0x41. On the G-stack P1 reads
the selected lines, 0 for a pressed key, and a write selects; SetButtons requests the joypad interrupt exactly
when a selected line goes from 1 to 0. -/
def Obligations.JoypadRegisters : Prop :=
  (∀ (n : NStack) (second : Bool) (v : Byte),
      let port : Word := if second then 0x4017 else 0x4016
      let byte := if second then n.joy.buttons1 else n.joy.buttons0
      let next := fun (m : NStack) => (m.read port).2
      let on := n.write 0x4016 (v ||| 1)
      let off := on.write 0x4016 (v &&& 0xFE)
      on.read port = (BitVec.ofNat 8 (0x40 + byte.toNat % 2), on) ∧
      on.joy.shift0 = n.joy.buttons0 ∧ on.joy.shift1 = n.joy.buttons1 ∧ off.joy.strobe = false ∧
      (∀ k < 8, ((next^[k] off).read port).1 = BitVec.ofNat 8 (0x40 + byte.toNat / 2 ^ k % 2)) ∧
      (∀ k, ((next^[k + 8] off).read port).1 = 0x41)) ∧
  (∀ (g : GStack) (v : Byte),
      let line := fun (btn : Byte) (k : Nat) =>
        !((!g.joy.select.getLsbD 0 && btn.getLsbD k) || (!g.joy.select.getLsbD 1 && btn.getLsbD (4 + k)))
      (∀ k < 4, (g.read 0xFF00).1.getLsbD k = line g.joy.buttons k) ∧
      (g.read 0xFF00).1.toNat / 16 = 12 + g.joy.select.toNat ∧ (g.read 0xFF00).2 = g ∧
      g.write 0xFF00 v = { g with joy := { g.joy with select := BitVec.ofNat 2 (v.toNat / 16) } } ∧
      g.setButtons v = { g with
        joy := { g.joy with buttons := v }
        irq := { g.irq with
          ifReg :=
            if ∃ k < 4, line g.joy.buttons k = true ∧ line v k = false then g.irq.ifReg ||| 0b10000
            else g.irq.ifReg } })

/-! ## The DMA engines -/

/-- R86, R87, R100, R101: a write of 0x4014 starts the N-stack transfer, and the storing instruction completes
with its own count; in place of an instruction a `Step` then copies one byte through the bus to register 4 of
the picture unit, for 2 cycles; the 256th unit ends the transfer. A write of 0xFF46 starts the G-stack transfer;
each unit reads the source through the bus, VRAM never closed to it, and stores straight into `oam` whatever the
mode, for 4 cycles; the 160th unit ends the transfer. An index past the end is the consistency fault. -/
def Obligations.DmaUnits : Prop :=
  (∀ (s : State) (v : Byte),
      s.n.write 0x4014 v = { s.n with dma := { active := true, page := v, index := 0 } } ∧
      (s.stack = .nStack → s.n.cpu.faulted = false → s.n.cpu.nmiPending = false →
        (s.n.cpu.irqLine = false ∨ s.n.cpu.p.i = true) → s.n.dma.active = true →
        let k := s.n.dma.index
        let m := s.n.read (join s.n.dma.page (BitVec.ofNat 8 k))
        cpuStep s = .next { s with n :=
          if k < 256 then { m.2 with
            ppuPort := .write 4 m.1 :: m.2.ppuPort
            dma := { active := decide (k ≠ 255), page := s.n.dma.page, index := k + 1 }
            cycles := 2 }
          else { s.n with
            cpu := { s.n.cpu with
              faulted := true, faultInfo := some { cause := .consistencyDma, pc := s.n.cpu.pc } }
            cycles := 0 } })) ∧
  (∀ (g : GStack) (v : Byte),
      g.write 0xFF46 v = { g with dma := { active := true, src := v, index := 0 } } ∧
      (g.dma.active = true →
        let k := g.dma.index
        let m := GStack.readAs .dma g (join g.dma.src (BitVec.ofNat 8 k))
        g.dmaArm =
          if k < 160 then { m.2 with
            mem := { g.mem with oam := g.mem.oam.write k m.1 }
            dma := { active := decide (k ≠ 159), src := g.dma.src, index := k + 1 }
            cycles := 4 }
          else { g with
            cpu := { g.cpu with
              faulted := true, faultInfo := some { cause := .consistencyDma, pc := g.cpu.pc } }
            cycles := 0 }) ∧
      (∀ a : Word, 0x8000 ≤ a.toNat → a.toNat < 0xA000 →
        GStack.readAs .dma g a = (g.mem.vram.read (a.toNat - 0x8000), g)) ∧
      (∀ a : Word, a.toNat < 0x8000 ∨ 0xA000 ≤ a.toNat → GStack.readAs .dma g a = g.read a))

/-- R101, R663: a whole transfer. With interrupts off, 160 steps of a session copy the 160 bytes of the source page into
`oam`, run no instruction, leave every other memory and every register of the core alone, and take 640 cycles, by
which the divider moves on. -/
def Obligations.WholeTransferCopiesSourcePage : Prop :=
  ∀ s : State, s.Inv → s.stack = .gStack → s.g.cpu.faulted = false → s.g.cpu.ime = false →
    s.g.cpu.halted = false → s.g.cpu.stopped = false → s.g.dma.active = true → s.g.dma.index = 0 →
    s.g.dma.src.toNat < 0xFE →
    ∃ t : State, Host.Core.run core 160 s = .next t ∧
      (∀ i < 160, t.g.mem.oam.read i =
        (GStack.readAs .dma s.g (join s.g.dma.src (BitVec.ofNat 8 i))).1) ∧
      t.g.mem = { s.g.mem with oam := t.g.mem.oam } ∧ t.g.cpu = s.g.cpu ∧
      t.g.dma = { active := false, src := s.g.dma.src, index := 160 } ∧
      t.g.mbc = s.g.mbc ∧ t.g.cart = s.g.cart ∧ t.g.joy = s.g.joy ∧ t.n = s.n ∧
      t.g.timer.div16 = s.g.timer.div16 + 640

/-! ## The timer and the picture unit -/

/-- R561, R563, R564: the divider moves by exactly the cycles given, whatever TAC holds; any `2^(b+1)`
consecutive ticks with the timer enabled contain exactly one falling edge of the selected bit, so `TIMA` goes up
by exactly 1 and no request is raised; disabled, `TIMA` does not move. When `TIMA` wraps it reads 0x00 for
exactly 4 ticks; in the fourth tick after the wrap it takes TMA and the timer request is raised, not before. -/
def Obligations.TimerCountsAndReloads : Prop :=
  (∀ (t : GTimer) (q : GIrq),
      let period :=
        if t.tac.toNat % 4 = 0 then 1024 else if t.tac.toNat % 4 = 1 then 16
        else if t.tac.toNat % 4 = 2 then 64 else 256
      (∀ c : Nat, (t.advance c q).1.div16 = t.div16 + BitVec.ofNat 16 c) ∧
      (t.ovfDelay = 0 → 4 ≤ t.tac.toNat → t.tima ≠ 0xFF →
        t.advance period q =
          ({ t with div16 := t.div16 + BitVec.ofNat 16 period, tima := t.tima + 1 }, q)) ∧
      (t.ovfDelay = 0 → t.tac.toNat < 4 → ∀ c : Nat,
        t.advance c q = ({ t with div16 := t.div16 + BitVec.ofNat 16 c }, q))) ∧
  (∀ (t : GTimer) (q : GIrq), t.ovfDelay = 0 → t.tima = 0xFF → (t.advance 1 q).1.tima ≠ 0xFF →
      (∀ c, 1 ≤ c → c ≤ 4 → (t.advance c q).1.tima = 0x00 ∧ (t.advance c q).2 = q) ∧
      (t.advance 5 q).1.tima = t.tma ∧ (t.advance 5 q).1.ovfDelay = 0 ∧
      (t.advance 5 q).2 = { q with ifReg := q.ifReg ||| 0b00100 })

/-- R575 to R579: with the LCD on, `c` cycles move the unit `c` dots along its frame of 154 lines of 456 dots, and the mode
follows from the line and the dot: 2, 3, 0 on a visible line, 1 on lines 144 to 153. Off, nothing moves. -/
def Obligations.PictureUnitGeometry : Prop :=
  ∀ (p : GPpu) (q : GIrq) (vram oam : Memory) (c : Nat), p.Inv →
    let p' := (p.advance vram oam c q).1
    (p.lcdOn = false → p.advance vram oam c q = (p, q)) ∧
    (p.lcdOn = true →
      p'.dot < 456 ∧ ppuPos p' = (ppuPos p + c) % 70224 ∧
      p'.mode =
        if 144 ≤ p'.ly.toNat then .vblank
        else if p'.dot < 80 then .oamSearch
        else if p'.dot < 252 then .transfer
        else .hblank)

/-- R580, R582: with the LCD on, the vertical-blank request is raised, and the finished frame handed over, exactly when
line 144 is entered: no dot earlier, and again 70224 dots later. -/
def Obligations.VerticalBlankOncePerFrame : Prop :=
  ∀ (p : GPpu) (q : GIrq) (vram oam : Memory), p.Inv → p.lcdOn = true →
    let at' := fun c => p.advance vram oam c q
    let d := toVblank p
    1 ≤ d ∧ d ≤ 70224 ∧
    (∀ c < d, (at' c).2.ifReg.getLsbD 0 = q.ifReg.getLsbD 0 ∧
      (at' c).1.frontBuffer = p.frontBuffer ∧ (at' c).1.frameReady = p.frameReady) ∧
    (at' d).1.ly = 144 ∧ (at' d).1.dot = 0 ∧ (at' d).2.ifReg.getLsbD 0 = true ∧
    (at' d).1.frontBuffer = (at' d).1.framebuffer ∧
    (at' d).1.framebuffer = (at' (d - 1)).1.framebuffer ∧ (at' d).1.frameReady = true ∧
    toVblank (at' d).1 = 70224

/-- R577, R578, R580, R583: what one dot requests: the STAT bit at the entry to mode 0, to mode 2, to mode 1 and at the
start of a line equal to LYC, each only under its select bit; the vertical-blank bit at line 144; no other bit. -/
def Obligations.DotRequests : Prop :=
  ∀ (p : GPpu) (q : GIrq) (vram oam : Memory), p.ly.toNat < 154 → p.dot < 456 →
    let ly := p.ly.toNat
    let next := if ly = 153 then 0 else ly + 1
    let lineEnd := decide (p.dot = 455)
    let stat :=
      (decide (p.dot = 251 ∧ ly < 144) && p.statSel.getLsbD 0) ||
      (lineEnd && decide (next < 144) && p.statSel.getLsbD 2) ||
      (lineEnd && decide (next = 144) && p.statSel.getLsbD 1) ||
      (lineEnd && decide (next = p.lyc.toNat) && p.statSel.getLsbD 3)
    let vblank := lineEnd && decide (next = 144)
    (GPpu.dotTick vram oam (p, q)).2 = { q with
      ifReg := q.ifReg ||| (if stat then 0b00010 else 0) ||| (if vblank then 0b00001 else 0) }

/-- R590, R592, R598, R599: at dot 252 of a visible line its 160 pixels are drawn: the sprite pixel over the background unless it
is behind a background index other than 0, each through its palette; no other row changes, and the window's own
line counter moves only if the window is on the line. -/
def Obligations.ScanlineIsDrawnAtDot252 : Prop :=
  ∀ (p : GPpu) (q : GIrq) (vram oam : Memory), p.Inv → p.ly.toNat < 144 → p.dot = 251 →
    let y := p.ly.toNat
    let p' := (GPpu.dotTick vram oam (p, q)).1
    let colour := fun (pal : Byte) (c : Nat) => (BitVec.ofNat 2 (pal.toNat / 4 ^ c) : Shade)
    p'.mode = .hblank ∧ p'.dot = 252 ∧ p'.ly = p.ly ∧
    (∀ x < 160, p'.framebuffer.pixel y x =
      let bg := p.bgWinIndex vram x y
      match p.spritePixel vram oam x y (p.selectSprites oam y) with
      | none => colour p.bgp bg
      | some s =>
        if s.behind = true ∧ bg ≠ 0 then colour p.bgp bg
        else colour (if s.pal then p.obp1 else p.obp0) s.c) ∧
    (∀ y' x, y' ≠ y → p'.framebuffer.pixel y' x = p.framebuffer.pixel y' x) ∧
    p'.lineSprites = p.selectSprites oam y ∧
    p'.winLine.toNat =
      if p.lcdc.getLsbD 0 = true ∧ p.lcdc.getLsbD 5 = true ∧ p.wy.toNat ≤ y ∧ p.wx.toNat ≤ 166 then
        (p.winLine.toNat + 1) % 256
      else p.winLine.toNat

/-- R591 to R594: the background and window colour index of a pixel: the map, the scroll or the window's own row, the tile
number signed or unsigned, and the two bitplanes. -/
def Obligations.BackgroundAndWindowPixels : Prop :=
  ∀ (p : GPpu) (vram : Memory) (x y : Nat), x < 160 → y < 144 →
    let bit := fun (k : Nat) => p.lcdc.toNat / 2 ^ k % 2 = 1
    let tile := fun (t : Byte) =>
      if bit 4 then 16 * t.toNat else ((0x1000 : Int) + 16 * t.toInt).toNat
    let plane := fun (a col : Nat) => (vram.read a).toNat / 2 ^ (7 - col) % 2
    let at' := fun (high : Prop) [Decidable high] (mx my : Nat) =>
      let a := tile (vram.read ((if high then 0x1C00 else 0x1800) + 32 * (my / 8) + mx / 8)) + 2 * (my % 8)
      2 * plane (a + 1) (mx % 8) + plane a (mx % 8)
    p.bgWinIndex vram x y =
      if ¬ bit 0 then 0
      else if bit 5 ∧ p.wy.toNat ≤ y ∧ p.wx.toNat ≤ 166 ∧ p.wx.toNat ≤ x + 7 then
        at' (bit 6) (x + 7 - p.wx.toNat) p.winLine.toNat
      else at' (bit 3) ((x + p.scx.toNat) % 256) ((y + p.scy.toNat) % 256)

/-- R595 to R597: the sprites of a line: none with sprites off; otherwise exactly the first ten, in OAM order, of those that
intersect the line, put in the order of their X and, where X is equal, of their index. The pixel of the sprite layer is
that of the first of them which is opaque there: row and column with the flips of attribute bits 6 and 5, a tall
sprite's tile number made even, the two bitplanes, index 0 transparent, with bit 4 the palette and bit 7 `behind`. -/
def Obligations.SpriteSelectionOrderAndPixels : Prop :=
  ∀ (p : GPpu) (vram oam : Memory) (ly : Nat),
    let h := if p.lcdc.getLsbD 2 then 16 else 8
    let y := fun i => (oam.read (4 * i)).toNat
    let x := fun i => (oam.read (4 * i + 1)).toNat
    let on := fun i => decide (y i ≤ ly + 16 ∧ ly + 16 < y i + h)
    let l := p.selectSprites oam ly
    (p.lcdc.getLsbD 1 = false → l = []) ∧
    (p.lcdc.getLsbD 1 = true → l.Perm (((List.range 40).filter on).take 10)) ∧
    l.length ≤ 10 ∧ l.Pairwise (fun i j => x i < x j ∨ (x i = x j ∧ i < j)) ∧
    ∀ sx : Nat, p.spritePixel vram oam sx ly l = l.findSome? fun i =>
      let attr := (oam.read (4 * i + 3)).toNat
      let row := ly + 16 - y i
      let row := if attr / 64 % 2 = 1 then h - 1 - row else row
      let col := sx + 8 - x i
      let col := if attr / 32 % 2 = 1 then 7 - col else col
      let t := (oam.read (4 * i + 2)).toNat
      let addr := 16 * (if h = 16 then t / 2 * 2 else t) + 2 * row
      let plane := fun (a : Nat) => (vram.read a).toNat / 2 ^ (7 - col) % 2
      let c := 2 * plane (addr + 1) + plane addr
      if sx + 8 < x i ∨ x i + 7 < sx + 8 ∨ c = 0 then none
      else some { c := c, pal := decide (attr / 16 % 2 = 1), behind := decide (attr / 128 = 1) }

/-! ## Interrupts -/

/-- R515, R516, R520, R521, R526 to R528: at the head of a `Step` of the M6502 a latched NMI, else a raised IRQ
line with `I` clear, is taken in place of the instruction: return address and flags on the stack with bit 4
clear, `I` set, `PC` from the vector, 7 cycles; NMI clears its latch. On the SM83 with `IME` set, the lowest
pending request is serviced in place of the instruction: its `IF` bit and no other is cleared, `IME`, the enable
delay, `halted` and `stopped` are cleared, `PC` is pushed and goes to `0x0040 + 8n`, for 20 cycles. -/
def Obligations.InterruptEntry : Prop :=
  (∀ s : State, s.stack = .nStack → s.n.cpu.faulted = false →
      (s.n.cpu.nmiPending = true →
        cpuStep s = .next { s with n :=
          let n := nEntered s.n s.n.cpu.pc false 0x7FFA
          { n with cpu := { n.cpu with nmiPending := false }, cycles := 7 } }) ∧
      (s.n.cpu.nmiPending = false → s.n.cpu.irqLine = true → s.n.cpu.p.i = false →
        cpuStep s = .next { s with n := { nEntered s.n s.n.cpu.pc false 0x7FFE with cycles := 7 } })) ∧
  (∀ (s : State) (k : Nat), s.stack = .gStack → s.g.cpu.faulted = false → s.g.cpu.ime = true →
      k < 5 → (s.g.irq.ieReg &&& s.g.irq.ifReg).getLsbD k = true →
      (∀ j < k, (s.g.irq.ieReg &&& s.g.irq.ifReg).getLsbD j = false) →
      cpuStep s = .next { s with g :=
        let g := pushed { s.g with
          irq := { s.g.irq with ifReg := s.g.irq.ifReg &&& BitVec.ofNat 5 (31 - 2 ^ k) }
          cpu := { s.g.cpu with ime := false, imeDelay := 0, halted := false, stopped := false } } s.g.cpu.pc
        { g with cpu := { g.cpu with pc := BitVec.ofNat 16 (0x40 + 8 * k) }, cycles := 20 } })

/-- R523, R350, R529: RTI right after an NMI, an IRQ or a BRK continues at the address that entry pushed, with
the flags and `S` as before the entry and no other register changed. On the SM83, what Push16 stores Pop16 gives
back, wherever both bytes are open storage; so RETI right after an interrupt entry returns to the displaced
instruction with `SP` as before and interrupts on at once. -/
def Obligations.ReturnUndoesEntry : Prop :=
  (∀ (s : State) (ret : Word) (b : Bool) (vector : Word), s.n.Inv → 0xFFFA ≤ vector.toNat → vector.toNat < 0xFFFF →
      ∃ t : State, exec .rti { s with n := s.n.enterInterrupt ret b vector } = .next t ∧
        t.n.cpu = { s.n.cpu with pc := ret } ∧ t.g = s.g) ∧
  (∀ (s : State) (v : Word) (c1 c2 : GCell), s.g.Inv → c1 ≠ c2 →
      s.g.cellOf .cpu (s.g.cpu.sp - 1) = some c1 → s.g.cellOf .cpu (s.g.cpu.sp - 2) = some c2 →
      (s.g.push16 v).pop16.1 = v ∧ (s.g.push16 v).pop16.2.cpu = s.g.cpu ∧
      ∃ t : State, exec .reti { s with g := s.g.serviceInterrupt } = .next t ∧
        t.g.cpu = { s.g.cpu with ime := true, imeDelay := 0, halted := false, stopped := false })

/-! ## The step -/

/-- R200, R502: on the M6502, with nothing to service first, a step is the execution of the instruction whose bytes stand
at `PC`, read through the bus in address order and no further than the instruction is long, and then the driver's
part (`PeripheralsFollowTheCpu`). -/
def Obligations.StepRunsDecodedM6502Instruction : Prop :=
  ∀ (s : State) (op b1 b2 : Byte) (n1 n2 n3 : NStack) (i : Instr) (rest : List Byte),
    s.stack = .nStack → nReady s.n →
    s.n.read s.n.cpu.pc = (op, n1) → n1.read (s.n.cpu.pc + 1) = (b1, n2) →
    n2.read (s.n.cpu.pc + 2) = (b2, n3) → decode .nStack [op, b1, b2] = .ok (i, rest) →
    let len := (encode i).length
    WellFormed i = true ∧
    ∃ t, exec i { s with n := if len = 1 then n1 else if len = 2 then n2 else n3 } = .next t ∧
      step s = .next t.finishStep

/-- R310, R502, R533, R535: the same on the SM83; a halted or stopped core whose release condition holds is released in the
same step. That the second byte of STOP, its padding byte, is one of the bytes read through the bus is DEDUCED, assumption
log 5; that a core released in this step stays released if the instruction then faults is DEDUCED, log 22. -/
def Obligations.StepRunsDecodedSm83Instruction : Prop :=
  ∀ (s : State) (op b1 b2 : Byte) (g1 g2 g3 : GStack) (i : Instr) (rest : List Byte),
    let g0 := { s.g with cpu := { s.g.cpu with halted := false, stopped := false } }
    s.stack = .gStack → gReady s.g →
    g0.read s.g.cpu.pc = (op, g1) → g1.read (s.g.cpu.pc + 1) = (b1, g2) →
    g2.read (s.g.cpu.pc + 2) = (b2, g3) → decode .gStack [op, b1, b2] = .ok (i, rest) →
    let len := (encode i).length
    WellFormed i = true ∧
    ∃ t, exec i { s with g := if len = 1 then g1 else if len = 2 then g2 else g3 } = .next t ∧
      step s = .next t.finishStep

/-- R502, R503, R505, R533, R535: once `faulted`, every later `Step` returns 0 and changes nothing, and the
driver advances no peripheral. A halted SM83 without an enabled request, or a stopped one without the joypad
request, returns 4 cycles and changes nothing else, except that a stopped core that was also halted is no longer
halted when a request releases it (assumption log 19). R680: where the program has halted, a self-jump included
(assumption log 21 on when interrupts are unable to fire), a step leaves it halted, with every register of both cores
and every memory as it was, but that an EI on its way still sets `IME` and a running transfer still fills `oam`. -/
def Obligations.FaultedSleepingAndHaltedPrograms : Prop :=
  (∀ s : State,
      (s.stack = .nStack → s.n.cpu.faulted = true →
        step s = .next { s with n := { s.n with cycles := 0 } }) ∧
      (s.stack = .gStack → s.g.cpu.faulted = true →
        step s = .next { s with g := { s.g with cycles := 0 } })) ∧
  (∀ s : State, s.stack = .gStack → s.g.cpu.faulted = false →
      (s.g.cpu.ime = false ∨ s.g.irq.pending = 0) →
      (s.g.cpu.halted = true → s.g.irq.pending = 0 →
        cpuStep s = .next { s with g := { s.g with cycles := 4 } }) ∧
      (s.g.cpu.halted = false ∨ s.g.irq.pending ≠ 0 →
        s.g.cpu.stopped = true → s.g.irq.ifReg.getLsbD 4 = false →
        cpuStep s = .next { s with g := { s.g with cpu := { s.g.cpu with halted := false }, cycles := 4 } })) ∧
  (∀ s : State, s.programHalted →
      ∃ t, step s = .next t ∧ t.programHalted ∧ t.n.cpu = s.n.cpu ∧ t.n.ram = s.n.ram ∧ t.n.prgRam = s.n.prgRam ∧
        t.g.cpu = { s.g.cpu with ime := t.g.cpu.ime, imeDelay := t.g.cpu.imeDelay } ∧
        t.g.mem = { s.g.mem with oam := t.g.mem.oam } ∧ (s.g.dma.active = false → t.g.mem.oam = s.g.mem.oam))

/-- R125 to R128, R576, R674: every step is a `Step` of the core, whichever arm of R502 it ends in, and then the driver's
part on what that left. After a `Step` of `c` cycles the timer ticks `c` times and then the picture unit makes `c`
dots with the registers the instruction left, and the audio unit or the N-stack picture unit is advanced by `c`; no
peripheral touches a register of a core but the NMI latch, which only its own unit sets (assumption logs 1, 15). The
driver counts the cycles and carries the overshoot of a frame. After a `Step` that faulted it does nothing. -/
def Obligations.PeripheralsFollowTheCpu : Prop :=
  (∀ s : State, ∃ t, cpuStep s = .next t ∧ step s = .next t.finishStep) ∧
  (∀ s : State, s.faulted = true → s.finishStep = s) ∧
  ∀ s : State,
    let count := fun (budget c : Nat) (f : FrameDriver) =>
      if budget ≤ f.count + c then
        ({ carry := f.count + c - budget, count := f.count + c - budget } : FrameDriver)
      else { f with count := f.count + c }
    (s.stack = .gStack → s.g.cpu.faulted = false →
      let c := s.g.cycles
      let t := (GTimer.tick^[c]) (s.g.timer, s.g.irq)
      let p := if s.g.ppu.lcdc.msb then ((GPpu.dotTick s.g.mem.vram s.g.mem.oam)^[c]) (s.g.ppu, t.2)
        else (s.g.ppu, t.2)
      s.finishStep = { s with g := { s.g with
        timer := t.1, ppu := p.1, irq := p.2
        apuPort := .advance c :: s.g.apuPort, frame := count 70224 c s.g.frame } }) ∧
    (s.stack = .nStack → s.n.cpu.faulted = false →
      let c := s.n.cycles
      let port := PortEvent.advance c :: s.n.ppuPort
      s.finishStep = { s with n := { s.n with
        cpu := { s.n.cpu with nmiPending := s.n.cpu.nmiPending || Config.ppuPortNmi port }
        ppuPort := port, frame := count 29781 c s.n.frame } })

/-- Every instruction of both cores, on any state whatever, ends in a next state, and so does every step: nothing stops
the machine but its own fault state (R74, R500, R501, R508). That the illegal opcodes end in a next state is the model's
form of the fault, assumption log 13; that the bare prefix and the terms no word decodes to have a meaning at all is the
model's choice, assumption logs 12 and 6. -/
def Obligations.EveryStepAnswersNextState : Prop :=
  (∀ (i : Instr) (s : State), ∃ t, exec i s = .next t) ∧ ∀ s : State, ∃ t, step s = .next t

/-- R20, R630: the two stacks share nothing: a session's step never changes the other stack or the choice of stack, and
what it makes of its own does not depend on the other. -/
def Obligations.StacksShareNothing : Prop :=
  ∀ (s s' t t' : State), step s = .next t → step s' = .next t' → s.stack = s'.stack →
    t.stack = s.stack ∧
    (s.stack = .nStack → t.g = s.g ∧ (s.n = s'.n → t.n = t'.n)) ∧
    (s.stack = .gStack → t.n = s.n ∧ (s.g = s'.g → t.g = t'.g))

/-- R670, R673, R156: the cycle count of every opcode of both cores, as the matrices of R176, R178 and R179 list them:
M6502 read instructions in the three indexed modes take one more when the low byte of the sum carries; branches
take 2, 3 or 4 (`M6502Branches`); SM83 conditional transfers take their second count when the condition holds. -/
def Obligations.CycleCountsAreThoseOfTheTable : Prop :=
  let m6502 : List (List Nat) :=
    [[7,6,0,0,0,3,5,0,3,2,2,0,0,4,6,0], [2,5,0,0,0,4,6,0,2,4,0,0,0,4,7,0]] ++
    [[6,6,0,0,3,3,5,0,4,2,2,0,4,4,6,0], [2,5,0,0,0,4,6,0,2,4,0,0,0,4,7,0]] ++
    [[6,6,0,0,0,3,5,0,3,2,2,0,3,4,6,0], [2,5,0,0,0,4,6,0,2,4,0,0,0,4,7,0]] ++
    [[6,6,0,0,0,3,5,0,4,2,2,0,5,4,6,0], [2,5,0,0,0,4,6,0,2,4,0,0,0,4,7,0]] ++
    [[0,6,0,0,3,3,3,0,2,0,2,0,4,4,4,0], [2,6,0,0,4,4,4,0,2,5,2,0,0,5,0,0]] ++
    [[2,6,2,0,3,3,3,0,2,2,2,0,4,4,4,0], [2,5,0,0,4,4,4,0,2,4,2,0,4,4,4,0]] ++
    [[2,6,0,0,3,3,5,0,2,2,2,0,4,4,6,0], [2,5,0,0,0,4,6,0,2,4,0,0,0,4,7,0]] ++
    [[2,6,0,0,3,3,5,0,2,2,2,0,4,4,6,0], [2,5,0,0,0,4,6,0,2,4,0,0,0,4,7,0]]
  let sm83 : List (List Nat) :=
    [[4,12,8,8,4,4,8,4,20,8,8,8,4,4,8,4], [4,12,8,8,4,4,8,4,12,8,8,8,4,4,8,4]] ++
    [[8,12,8,8,4,4,8,4,8,8,8,8,4,4,8,4], [8,12,8,8,12,12,12,4,8,8,8,8,4,4,8,4]] ++
    [[4,4,4,4,4,4,8,4,4,4,4,4,4,4,8,4], [4,4,4,4,4,4,8,4,4,4,4,4,4,4,8,4]] ++
    [[4,4,4,4,4,4,8,4,4,4,4,4,4,4,8,4], [8,8,8,8,8,8,4,8,4,4,4,4,4,4,8,4]] ++
    [[4,4,4,4,4,4,8,4,4,4,4,4,4,4,8,4], [4,4,4,4,4,4,8,4,4,4,4,4,4,4,8,4]] ++
    [[4,4,4,4,4,4,8,4,4,4,4,4,4,4,8,4], [4,4,4,4,4,4,8,4,4,4,4,4,4,4,8,4]] ++
    [[8,12,12,16,12,16,8,16,8,16,12,0,12,24,8,16], [8,12,12,0,12,16,8,16,8,16,12,0,12,0,8,16]] ++
    [[12,12,8,0,0,16,8,16,16,4,16,0,0,0,8,16], [12,12,8,4,0,16,8,16,12,8,16,4,0,0,8,16]]
  let taken : List (Nat × Nat) :=
    [(0x20, 12), (0x28, 12), (0x30, 12), (0x38, 12), (0xC0, 20), (0xC8, 20), (0xD0, 20), (0xD8, 20)] ++
    [(0xC2, 16), (0xCA, 16), (0xD2, 16), (0xDA, 16), (0xC4, 24), (0xCC, 24), (0xD4, 24), (0xDC, 24)]
  let cell := fun (m : List (List Nat)) (op : Byte) => (m.getD (op.toNat / 16) []).getD (op.toNat % 16) 0
  (∀ (s t : State) (op b1 b2 : Byte), exec (decodeM6502 op b1 b2) s = .next t →
    let r := s.n.cpu
    let row := op.toNat / 16
    let col := op.toNat % 16
    let read := decide (row ≠ 8 ∧ row ≠ 9)
    let carry :=
      if (col = 0xD ∧ row % 2 = 1) ∨ op = 0xBC then read && decide (256 ≤ b1.toNat + r.x.toNat)
      else if (col = 0x9 ∧ row % 2 = 1) ∨ op = 0xBE then read && decide (256 ≤ b1.toNat + r.y.toNat)
      else if col = 0x1 ∧ row % 2 = 1 then
        read && decide (256 ≤ (s.n.ram.read b1.toNat).toNat + r.y.toNat)
      else false
    (col = 0 ∧ row % 2 = 1 → t.n.cycles = 2 ∨ t.n.cycles = 3 ∨ t.n.cycles = 4) ∧
    (¬ (col = 0 ∧ row % 2 = 1) → t.n.cycles = cell m6502 op + (if carry then 1 else 0))) ∧
  (∀ (s t : State) (op b1 b2 : Byte), op ≠ 0xCB → exec (decodeSm83 op b1 b2) s = .next t →
    let cc := op.toNat / 8 % 4
    let f := s.g.cpu.f
    let holds :=
      if cc = 0 then !f.z else if cc = 1 then f.z else if cc = 2 then !f.c else f.c
    t.g.cycles = ((taken.lookup op.toNat).filter fun _ => holds).getD (cell sm83 op)) ∧
  (∀ (s t : State) (cbop b2 : Byte), exec (decodeSm83 0xCB cbop b2) s = .next t →
    t.g.cycles =
      if cbop.toNat % 8 ≠ 6 then 8 else if cbop.toNat / 64 = 1 then 12 else 16)

/-- R126, R503, R680: RunFrame always comes to an end: either the frame is complete, with the overshoot of its last `Step`
carried over and no larger than that `Step`, or a fault has ended it, and then the session is faulted. -/
def Obligations.RunFrameEnds : Prop :=
  ∀ s : State, s.Inv → ∃ (t : State) (sentinel : Bool),
    runFrame s = .next (t, sentinel) ∧ t.Inv ∧ sentinel = t.faulted ∧
    (sentinel = false →
      (s.stack = .nStack → t.n.frame.count = t.n.frame.carry ∧ t.n.frame.carry < t.n.cycles) ∧
      (s.stack = .gStack → t.g.frame.count = t.g.frame.carry ∧ t.g.frame.carry < t.g.cycles))

/-! ## Invariants -/

/-- The state after reset meets the invariant. -/
def Obligations.ResetMeetsInvariant : Prop := State.reset.Inv ∧ State.reset.faulted = false

/-- THE INVARIANT THAT EVERY STEP KEEPS: memories in canonical form and inside their sizes, the DMA indices in range
(R28, R37), the low bank never 0 (R122), `ime_delay` at most 2 (R35), the reload delay at most 4 (R56), `LY` and the
dot in range with the mode that follows from them (R575 to R579), the LCD off at line 0 (R585), at most ten sprites
(R595), pictures of 144 rows of 160 (R55), the carry bounds (R39), the fault record with `faulted` (R505). -/
def Obligations.StepKeepsInvariant : Prop :=
  ∀ s t : State, s.Inv → step s = .next t → t.Inv

/-- R506: the consistency fault is unreachable: a step from a state that meets the invariant faults only by an illegal
opcode. -/
def Obligations.OnlyIllegalOpcodesFault : Prop :=
  ∀ s t : State, s.Inv → s.faulted = false → step s = .next t → t.faulted = true →
    ∃ r : FaultRecord, r.illegal = true ∧
      (s.stack = .nStack → t.n.cpu.faultInfo = some r ∧ r.pc = s.n.cpu.pc ∧ t.n.cycles = 0) ∧
      (s.stack = .gStack → t.g.cpu.faultInfo = some r ∧ r.pc = s.g.cpu.pc ∧ t.g.cycles = 0)

/-! ## Reset, construction and save data -/

/-- R61, R62, R650 to R652: what Reset leaves of the N-stack: `PC` from 0xFFFC in the cartridge's bank 0, the
cartridge and its RAM kept, and everything else at the values the spec gives; and of the G-stack: the registers
of the core, the I/O registers as they read through the bus, the internal state of the timer and the picture
unit, empty memories; `eram` and the cartridge are kept. That the external units see the Reset as one event more is
the model's choice (assumption log 20). -/
def Obligations.ResetStates : Prop :=
  (∀ n : NStack,
      let rom := fun off => n.cart.prgRom.read (n.cart.romOffset 0 off)
      n.resetOf =
        { cpu :=
            { a := 0, x := 0, y := 0, s := 0xFD, pc := join (rom 0x7FFD) (rom 0x7FFC)
              p := { n := false, v := false, d := false, i := true, z := false, c := false }
              nmiPending := false, irqLine := false, faulted := false, faultInfo := none }
          dma := { active := false, page := 0, index := 0 }
          ram := [], prgRam := n.prgRam, prgBank := 0, chrBank := 0
          joy := { strobe := false, shift0 := 0, shift1 := 0,
                     buttons0 := n.resetOf.joy.buttons0, buttons1 := n.resetOf.joy.buttons1 }
          cart := n.cart, ppuPort := .advance 7 :: .reset :: n.ppuPort
          frame := { carry := 7, count := 7 }, cycles := 0 }) ∧
  (∀ g : GStack,
      let m := g.resetOf
      let c := m.cpu
      join c.a (fByte c.f) = 0x01B0 ∧ join c.b c.c = 0x0013 ∧ join c.d c.e = 0x00D8 ∧ join c.h c.l = 0x014D ∧
      c.sp = 0xFFFE ∧ c.pc = 0x0100 ∧ c.ime = false ∧ c.imeDelay = 0 ∧ c.halted = false ∧ c.stopped = false ∧
      c.faulted = false ∧ c.faultInfo = none ∧ m.dma = { active := false, src := 0xFF, index := 0 } ∧
      m.timer.div16 = 0xABCC ∧ m.timer.ovfDelay = 0 ∧ m.ppu.dot = 0 ∧ m.ppu.mode = .oamSearch ∧
      m.ppu.winLine = 0 ∧ m.ppu.lineSprites = [] ∧ m.ppu.frameReady = false ∧
      (∀ y x, m.ppu.framebuffer.pixel y x = 0 ∧ m.ppu.frontBuffer.pixel y x = 0) ∧
      m.mbc = { ramEnable := false, bankLo := 1, bankHi := 0, mode := false } ∧ m.joy.buttons = 0 ∧
      (∀ k, m.mem.vram.read k = 0 ∧ m.mem.wram.read k = 0 ∧ m.mem.oam.read k = 0 ∧ m.mem.hram.read k = 0) ∧
      m.mem.eram = g.mem.eram ∧ m.cart = g.cart ∧ m.apuPort = .reset :: g.apuPort ∧ m.frame.carry = 0 ∧
      ∀ e ∈ ([(0xFF00, 0xFF), (0xFF04, 0xAB), (0xFF05, 0x00), (0xFF06, 0x00), (0xFF07, 0xF8), (0xFF0F, 0xE1),
          (0xFF40, 0x91), (0xFF41, 0x86), (0xFF42, 0x00), (0xFF43, 0x00), (0xFF44, 0x00), (0xFF45, 0x00),
          (0xFF46, 0xFF), (0xFF47, 0xFC), (0xFF48, 0xFF), (0xFF49, 0xFF), (0xFF4A, 0x00), (0xFF4B, 0x00),
          (0xFFFF, 0xE0)] : List (Word × Byte)), m.read e.1 = (e.2, m))

/-- R115, R116, R120, R653: a session comes into existence exactly when the image has the header the spec asks for
(assumption log 16 on two points the header rules leave open). It then holds the cartridge of the image, its ROM byte
for byte, and the save blob in its RAM, and is after reset (R60, R61): the registers written out, and Reset of the stack
would change nothing but what the external unit has seen. It meets the invariant. -/
def Obligations.ConstructionAcceptsExactlyTheRuledImages : Prop :=
  ∀ (image : List Byte) (save : Option (List Byte)) (unit : Nat),
    let b := fun k => (image.getD k 0).toNat
    let blob := save.getD []
    let mapper := b 7 / 16 * 16 + b 6 / 16
    let nOk := 16 ≤ image.length ∧ image.take 4 = [0x4E, 0x45, 0x53, 0x1A] ∧ 1 ≤ b 4 ∧
      16 + (if b 6 / 4 % 2 = 1 then 512 else 0) + b 4 * 16384 + b 5 * 8192 ≤ image.length ∧
      (mapper = 0 ∨ mapper = 2 ∨ mapper = 3)
    let gOk := image.length % 16384 = 0 ∧ 32768 ≤ image.length ∧ b 0x147 ≤ 3 ∧ b 0x149 ≤ 3
    (nOk ↔ ∃ s, construct .nStack image save unit = .ok s) ∧
    (gOk ↔ ∃ s, construct .gStack image save unit = .ok s) ∧
    (∀ st s, construct st image save unit = .ok s →
      s.Inv ∧ s.stack = st ∧ s.faulted = false ∧ s.frameCount = (if st = .nStack then 7 else 0)) ∧
    (∀ s, construct .nStack image save unit = .ok s →
      let c := s.n.cart
      let vector := fun off => c.prgRom.read (c.romOffset 0 off)
      c.mapper = (if mapper = 0 then .nrom else if mapper = 2 then .uxrom else .cnrom) ∧
      c.prgUnits = b 4 ∧ c.chrUnits = b 5 ∧ c.mirroring = decide (b 6 % 2 = 1) ∧
      c.battery = decide (b 6 / 2 % 2 = 1) ∧ c.fourScreen = decide (b 6 / 8 % 2 = 1) ∧
      (∀ k < b 4 * 16384,
        c.prgRom.read k = image.getD (16 + (if b 6 / 4 % 2 = 1 then 512 else 0) + k) 0) ∧
      (∀ k < 8192, s.n.prgRam.read k = blob.getD k 0) ∧
      s.n.cpu =
        { a := 0, x := 0, y := 0, s := 0xFD, pc := join (vector 0x7FFD) (vector 0x7FFC)
          p := { n := false, v := false, d := false, i := true, z := false, c := false }
          nmiPending := false, irqLine := false, faulted := false, faultInfo := none } ∧
      s.n = { s.n.resetOf with ppuPort := s.n.ppuPort }) ∧
    (∀ s, construct .gStack image save unit = .ok s →
      let c := s.g.cart
      c.type = (if b 0x147 = 0 then .romOnly else .mbc1) ∧ c.romBanks = image.length / 16384 ∧
      c.ramSize = (if b 0x147 < 2 then 0 else [0, 2048, 8192, 32768].getD (b 0x149) 0) ∧
      c.battery = decide (b 0x147 = 3) ∧
      (∀ k < image.length, c.rom.read k = image.getD k 0) ∧
      (∀ k < c.ramSize, s.g.mem.eram.read k = blob.getD k 0) ∧
      s.g.cpu =
        { a := 0x01, f := { z := true, n := false, h := true, c := true }
          b := 0x00, c := 0x13, d := 0x00, e := 0xD8, h := 0x01, l := 0x4D
          sp := 0xFFFE, pc := 0x0100, ime := false, imeDelay := 0
          halted := false, stopped := false, faulted := false, faultInfo := none } ∧
      s.g = { s.g.resetOf with apuPort := s.g.apuPort })

/-- R135: save data: what GetSaveData gives is the battery RAM byte for byte, and LoadSave of it restores that RAM; a blob
of another size is copied as far as it goes and the rest is zero. -/
def Obligations.SaveDataRoundTrip : Prop :=
  ∀ (s : State) (blob : List Byte), s.Inv →
    s.loadSave s.getSaveData = s ∧
    s.getSaveData.length = (if s.stack = .nStack then 8192 else s.g.cart.ramSize) ∧
    ∀ k < s.getSaveData.length,
      s.getSaveData.getD k 0 = (if s.stack = .nStack then s.n.prgRam.read k else s.g.mem.eram.read k) ∧
      (s.loadSave blob).getSaveData.getD k 0 = blob.getD k 0
end

