-- ==== Sys2Proof/Laws/Memory.lean ====
section
/-! SUPPORT. Lists in canonical form: read after write, and every operation keeps the form. -/

namespace Sys2Proof.Machine

section Sparse

variable {α : Type} [DecidableEq α] {dflt : α}

theorem sparseWfFrom_mono {low low' : Nat} {l : List (Nat × α)} (h : low' ≤ low)
    (hl : sparseWfFrom dflt low l = true) : sparseWfFrom dflt low' l = true := by
  cases l with
  | nil => rfl
  | cons e rest =>
    simp only [sparseWfFrom, Bool.and_eq_true, decide_eq_true_eq] at hl ⊢
    exact ⟨⟨by omega, hl.1.2⟩, hl.2⟩

/-- A key below the first is not listed. -/
theorem sparseRead_of_wfFrom {low key : Nat} {l : List (Nat × α)} (hl : sparseWfFrom dflt low l = true)
    (h : key < low) : sparseRead dflt l key = dflt := by
  induction l generalizing low with
  | nil => rfl
  | cons e rest ih =>
    simp only [sparseWfFrom, Bool.and_eq_true, decide_eq_true_eq] at hl
    rw [sparseRead, if_neg (by omega)]
    exact ih hl.2 (by omega)

theorem sparseRead_write_ne {key other : Nat} {v : α} (l : List (Nat × α)) (h : other ≠ key) :
    sparseRead dflt (sparseWrite dflt key v l) other = sparseRead dflt l other := by
  induction l with
  | nil => by_cases hv : v = dflt <;> simp [sparseWrite, sparseRead, hv, Ne.symm h]
  | cons e rest ih =>
    obtain ⟨k, w⟩ := e
    by_cases h1 : key < k
    · by_cases hv : v = dflt <;> simp [sparseWrite, sparseRead, h1, hv, Ne.symm h]
    · by_cases h2 : key = k
      · subst h2
        by_cases hv : v = dflt <;> simp [sparseWrite, sparseRead, hv, Ne.symm h]
      · simp [sparseWrite, sparseRead, h1, h2, ih]

theorem sparseRead_write_self {low key : Nat} {v : α} {l : List (Nat × α)}
    (hl : sparseWfFrom dflt low l = true) :
    sparseRead dflt (sparseWrite dflt key v l) key = v := by
  induction l generalizing low with
  | nil => by_cases hv : v = dflt <;> simp [sparseWrite, sparseRead, hv]
  | cons e rest ih =>
    obtain ⟨k, w⟩ := e
    simp only [sparseWfFrom, Bool.and_eq_true, decide_eq_true_eq] at hl
    by_cases h1 : key < k
    · by_cases hv : v = dflt
      · simp only [sparseWrite, h1, hv, if_true, sparseRead]
        rw [if_neg (by omega)]
        exact sparseRead_of_wfFrom hl.2 (by omega)
      · simp [sparseWrite, sparseRead, h1, hv]
    · by_cases h2 : key = k
      · subst h2
        by_cases hv : v = dflt
        · simp only [sparseWrite, lt_irrefl, if_false, if_true, hv]
          exact sparseRead_of_wfFrom hl.2 (by omega)
        · simp [sparseWrite, sparseRead, hv]
      · simp only [sparseWrite, h1, h2, if_false, sparseRead]
        rw [if_neg (fun h => h2 h.symm)]
        exact ih hl.2

theorem sparseWrite_wfFrom {low key : Nat} {v : α} {l : List (Nat × α)} (hk : low ≤ key)
    (hl : sparseWfFrom dflt low l = true) :
    sparseWfFrom dflt low (sparseWrite dflt key v l) = true := by
  induction l generalizing low with
  | nil => by_cases hv : v = dflt <;> simp [sparseWrite, sparseWfFrom, hv, hk]
  | cons e rest ih =>
    obtain ⟨k, w⟩ := e
    have hl' := hl
    simp only [sparseWfFrom, Bool.and_eq_true, decide_eq_true_eq] at hl'
    by_cases h1 : key < k
    · by_cases hv : v = dflt
      · simpa [sparseWrite, h1, hv] using hl
      · simp only [sparseWrite, h1, hv, if_true, if_false, sparseWfFrom, Bool.and_eq_true,
          decide_eq_true_eq]
        exact ⟨⟨hk, hv⟩, ⟨by omega, hl'.1.2⟩, hl'.2⟩
    · by_cases h2 : key = k
      · subst h2
        by_cases hv : v = dflt
        · simp only [sparseWrite, lt_irrefl, if_false, if_true, hv]
          exact sparseWfFrom_mono (by omega) hl'.2
        · simp only [sparseWrite, lt_irrefl, if_false, if_true, hv, sparseWfFrom, Bool.and_eq_true,
            decide_eq_true_eq]
          exact ⟨⟨hk, hv⟩, hl'.2⟩
      · simp only [sparseWrite, h1, h2, if_false, sparseWfFrom, Bool.and_eq_true, decide_eq_true_eq]
        exact ⟨hl'.1, ih (by omega) hl'.2⟩

/-- Two lists in canonical form that read the same at every key are the same list. -/
theorem sparse_ext {low : Nat} {l m : List (Nat × α)} (hl : sparseWfFrom dflt low l = true)
    (hm : sparseWfFrom dflt low m = true) (h : ∀ k, sparseRead dflt l k = sparseRead dflt m k) : l = m := by
  induction l generalizing low m with
  | nil =>
    cases m with
    | nil => rfl
    | cons e rest =>
      obtain ⟨k, w⟩ := e
      simp only [sparseWfFrom, Bool.and_eq_true, decide_eq_true_eq] at hm
      have := h k
      simp only [sparseRead, if_true] at this
      exact absurd this.symm hm.1.2
  | cons e rest ih =>
    obtain ⟨k, w⟩ := e
    simp only [sparseWfFrom, Bool.and_eq_true, decide_eq_true_eq] at hl
    cases m with
    | nil =>
      have := h k
      simp only [sparseRead, if_true] at this
      exact absurd this hl.1.2
    | cons e' rest' =>
      obtain ⟨k', w'⟩ := e'
      simp only [sparseWfFrom, Bool.and_eq_true, decide_eq_true_eq] at hm
      have hkk : k = k' := by
        by_contra hne
        rcases Nat.lt_or_gt_of_ne hne with hlt | hgt
        · have := h k
          rw [sparseRead, if_pos rfl, sparseRead, if_neg (by omega),
            sparseRead_of_wfFrom hm.2 (by omega)] at this
          exact hl.1.2 this
        · have := h k'
          rw [sparseRead, if_neg (by omega), sparseRead_of_wfFrom hl.2 (by omega), sparseRead,
            if_pos rfl] at this
          exact hm.1.2 this.symm
      subst hkk
      have hw : w = w' := by simpa [sparseRead] using h k
      subst hw
      have hr : rest = rest' := by
        refine ih hl.2 hm.2 fun j => ?_
        by_cases hj : j = k
        · subst hj
          rw [sparseRead_of_wfFrom hl.2 (by omega), sparseRead_of_wfFrom hm.2 (by omega)]
        · simpa [sparseRead, Ne.symm hj] using h j
      rw [hr]

theorem mem_sparseWrite {key : Nat} {v : α} {l : List (Nat × α)} {e : Nat × α}
    (h : e ∈ sparseWrite dflt key v l) : e = (key, v) ∨ e ∈ l := by
  induction l with
  | nil =>
    by_cases hv : v = dflt
    · simp [sparseWrite, hv] at h
    · simp [sparseWrite, hv] at h
      exact .inl h
  | cons e' rest ih =>
    obtain ⟨k, w⟩ := e'
    by_cases h1 : key < k
    · by_cases hv : v = dflt
      · simp [sparseWrite, h1, hv] at h
        rcases h with h | h <;> simp [h]
      · simp [sparseWrite, h1, hv] at h
        rcases h with h | h | h <;> simp [h]
    · by_cases h2 : key = k
      · by_cases hv : v = dflt
        · simp [sparseWrite, h2, hv] at h
          simp [h]
        · simp [sparseWrite, h2, hv] at h
          rcases h with h | h <;> simp [h, h2]
      · simp [sparseWrite, h1, h2] at h
        rcases h with h | h
        · simp [h]
        · rcases ih h with h | h <;> simp [h]

theorem sparseWrite_below {size key : Nat} {v : α} {l : List (Nat × α)} (hk : key < size)
    (hl : sparseBelow size l = true) : sparseBelow size (sparseWrite dflt key v l) = true := by
  simp only [sparseBelow, List.all_eq_true, decide_eq_true_eq] at hl ⊢
  intro e he
  rcases mem_sparseWrite he with rfl | he
  · exact hk
  · exact hl e he

end Sparse

namespace Memory

/-- Read after write at the same offset. -/
theorem read_write_self {m : Memory} (h : m.wf = true) (off : Nat) (v : Byte) :
    (m.write off v).read off = v := sparseRead_write_self h

/-- A write leaves every other offset alone. -/
theorem read_write_ne (m : Memory) {off other : Nat} (v : Byte) (h : other ≠ off) :
    (m.write off v).read other = m.read other := sparseRead_write_ne m h

/-- A write keeps the canonical form. -/
theorem write_wf {m : Memory} (h : m.wf = true) (off : Nat) (v : Byte) : (m.write off v).wf = true :=
  sparseWrite_wfFrom (Nat.zero_le _) h

/-- Equal memories are equal data. -/
theorem ext {m m' : Memory} (h : m.wf = true) (h' : m'.wf = true) (hr : ∀ k, m.read k = m'.read k) : m = m' :=
  sparse_ext h h' hr

/-- A write inside a memory of `size` bytes keeps it well formed. -/
theorem Ok.write {m : Memory} {size off : Nat} (h : m.Ok size) (hk : off < size) (v : Byte) :
    (m.write off v).Ok size := ⟨write_wf h.1 off v, sparseWrite_below hk h.2⟩

theorem ok_nil (size : Nat) : Memory.Ok [] size := ⟨rfl, rfl⟩

theorem ofBytesFrom_wf (off : Nat) (bs : List Byte) :
    sparseWfFrom unlisted off (ofBytesFrom off bs) = true := by
  induction bs generalizing off with
  | nil => rfl
  | cons b bs ih =>
    by_cases hb : b = unlisted
    · simp only [ofBytesFrom, hb, if_true]
      exact sparseWfFrom_mono (by omega) (ih (off + 1))
    · simp [ofBytesFrom, hb, sparseWfFrom, ih]

/-- A memory made of bytes is in canonical form. -/
theorem ofBytes_wf (bs : List Byte) : (ofBytes bs).wf = true := ofBytesFrom_wf 0 bs

theorem ofBytesFrom_below (off : Nat) (bs : List Byte) :
    sparseBelow (off + bs.length) (ofBytesFrom off bs) = true := by
  induction bs generalizing off with
  | nil => rfl
  | cons b bs ih =>
    have h := ih (off + 1)
    rw [show off + 1 + bs.length = off + (b :: bs).length by simp; omega] at h
    by_cases hb : b = unlisted
    · simpa [ofBytesFrom, hb] using h
    · simp only [ofBytesFrom, hb, if_false, sparseBelow, List.all_cons, Bool.and_eq_true,
        decide_eq_true_eq]
      exact ⟨by simp, h⟩

/-- A memory made of bytes lies below their number. -/
theorem ofBytes_ok (bs : List Byte) : (ofBytes bs).Ok bs.length :=
  ⟨ofBytes_wf bs, by have h := ofBytesFrom_below 0 bs; rwa [Nat.zero_add] at h⟩

end Memory

namespace Picture

/-- A row written into a picture of 144 rows of 160 shades keeps it one. -/
theorem Ok.setRow {p : Picture} (h : p.Ok) {y : Nat} (hy : y < Config.ppuVisible) {r : List Shade}
    (hr : r.length = Config.ppuWidth) : (p.setRow y r).Ok := by
  refine ⟨sparseWrite_wfFrom (Nat.zero_le _) h.1, sparseWrite_below hy h.2.1, fun e he => ?_⟩
  rcases mem_sparseWrite he with rfl | he
  · exact hr
  · exact h.2.2 e he

theorem ok_nil : Picture.Ok [] := ⟨rfl, rfl, by simp⟩

end Picture

end Sys2Proof.Machine
end

