-- ==== Sys2Proof/Laws/State.lean ====
section
/-! SUPPORT. One lemma per field and update, true by `rfl`, so that no proof unfolds a record update. -/

namespace Sys2Proof.Machine

/-! `NStack.portEvent`, `NStack.next`. -/

@[simp] theorem NStack.portEvent_cpu (n : NStack) (e : PortEvent) : (n.portEvent e).cpu = n.cpu := rfl
@[simp] theorem NStack.portEvent_dma (n : NStack) (e : PortEvent) : (n.portEvent e).dma = n.dma := rfl
@[simp] theorem NStack.portEvent_ram (n : NStack) (e : PortEvent) : (n.portEvent e).ram = n.ram := rfl
@[simp] theorem NStack.portEvent_prgRam (n : NStack) (e : PortEvent) : (n.portEvent e).prgRam = n.prgRam := rfl
@[simp] theorem NStack.portEvent_prgBank (n : NStack) (e : PortEvent) :
    (n.portEvent e).prgBank = n.prgBank := rfl
@[simp] theorem NStack.portEvent_chrBank (n : NStack) (e : PortEvent) :
    (n.portEvent e).chrBank = n.chrBank := rfl
@[simp] theorem NStack.portEvent_joy (n : NStack) (e : PortEvent) : (n.portEvent e).joy = n.joy := rfl
@[simp] theorem NStack.portEvent_cart (n : NStack) (e : PortEvent) : (n.portEvent e).cart = n.cart := rfl
@[simp] theorem NStack.portEvent_frame (n : NStack) (e : PortEvent) : (n.portEvent e).frame = n.frame := rfl
@[simp] theorem NStack.portEvent_cycles (n : NStack) (e : PortEvent) : (n.portEvent e).cycles = n.cycles := rfl
@[simp] theorem NStack.portEvent_ppuPort (n : NStack) (e : PortEvent) :
    (n.portEvent e).ppuPort = e :: n.ppuPort := rfl
@[simp] theorem NStack.next_dma (n : NStack) (len cost : Nat) : (n.next len cost).dma = n.dma := rfl
@[simp] theorem NStack.next_ram (n : NStack) (len cost : Nat) : (n.next len cost).ram = n.ram := rfl
@[simp] theorem NStack.next_prgRam (n : NStack) (len cost : Nat) : (n.next len cost).prgRam = n.prgRam := rfl
@[simp] theorem NStack.next_prgBank (n : NStack) (len cost : Nat) :
    (n.next len cost).prgBank = n.prgBank := rfl
@[simp] theorem NStack.next_chrBank (n : NStack) (len cost : Nat) :
    (n.next len cost).chrBank = n.chrBank := rfl
@[simp] theorem NStack.next_joy (n : NStack) (len cost : Nat) : (n.next len cost).joy = n.joy := rfl
@[simp] theorem NStack.next_cart (n : NStack) (len cost : Nat) : (n.next len cost).cart = n.cart := rfl
@[simp] theorem NStack.next_ppuPort (n : NStack) (len cost : Nat) :
    (n.next len cost).ppuPort = n.ppuPort := rfl
@[simp] theorem NStack.next_frame (n : NStack) (len cost : Nat) : (n.next len cost).frame = n.frame := rfl
@[simp] theorem NStack.next_cpu_a (n : NStack) (len cost : Nat) : (n.next len cost).cpu.a = n.cpu.a := rfl
@[simp] theorem NStack.next_cpu_x (n : NStack) (len cost : Nat) : (n.next len cost).cpu.x = n.cpu.x := rfl
@[simp] theorem NStack.next_cpu_y (n : NStack) (len cost : Nat) : (n.next len cost).cpu.y = n.cpu.y := rfl
@[simp] theorem NStack.next_cpu_s (n : NStack) (len cost : Nat) : (n.next len cost).cpu.s = n.cpu.s := rfl
@[simp] theorem NStack.next_cpu_pc (n : NStack) (len cost : Nat) :
    (n.next len cost).cpu.pc = n.cpu.pc + BitVec.ofNat 16 len := rfl
@[simp] theorem NStack.next_cpu_p (n : NStack) (len cost : Nat) : (n.next len cost).cpu.p = n.cpu.p := rfl
@[simp] theorem NStack.next_cpu_nmiPending (n : NStack) (len cost : Nat) :
    (n.next len cost).cpu.nmiPending = n.cpu.nmiPending := rfl
@[simp] theorem NStack.next_cpu_irqLine (n : NStack) (len cost : Nat) :
    (n.next len cost).cpu.irqLine = n.cpu.irqLine := rfl
@[simp] theorem NStack.next_cpu_faulted (n : NStack) (len cost : Nat) :
    (n.next len cost).cpu.faulted = n.cpu.faulted := rfl
@[simp] theorem NStack.next_cpu_faultInfo (n : NStack) (len cost : Nat) :
    (n.next len cost).cpu.faultInfo = n.cpu.faultInfo := rfl
@[simp] theorem NStack.next_cycles (n : NStack) (len cost : Nat) : (n.next len cost).cycles = cost := rfl

/-! `NStack.raiseFault`. -/

@[simp] theorem NStack.raiseFault_dma (n : NStack) (c : FaultCause) : (n.raiseFault c).dma = n.dma := rfl
@[simp] theorem NStack.raiseFault_ram (n : NStack) (c : FaultCause) : (n.raiseFault c).ram = n.ram := rfl
@[simp] theorem NStack.raiseFault_prgRam (n : NStack) (c : FaultCause) :
    (n.raiseFault c).prgRam = n.prgRam := rfl
@[simp] theorem NStack.raiseFault_prgBank (n : NStack) (c : FaultCause) :
    (n.raiseFault c).prgBank = n.prgBank := rfl
@[simp] theorem NStack.raiseFault_chrBank (n : NStack) (c : FaultCause) :
    (n.raiseFault c).chrBank = n.chrBank := rfl
@[simp] theorem NStack.raiseFault_joy (n : NStack) (c : FaultCause) : (n.raiseFault c).joy = n.joy := rfl
@[simp] theorem NStack.raiseFault_cart (n : NStack) (c : FaultCause) : (n.raiseFault c).cart = n.cart := rfl
@[simp] theorem NStack.raiseFault_ppuPort (n : NStack) (c : FaultCause) :
    (n.raiseFault c).ppuPort = n.ppuPort := rfl
@[simp] theorem NStack.raiseFault_frame (n : NStack) (c : FaultCause) : (n.raiseFault c).frame = n.frame := rfl
@[simp] theorem NStack.raiseFault_cpu_a (n : NStack) (c : FaultCause) : (n.raiseFault c).cpu.a = n.cpu.a := rfl
@[simp] theorem NStack.raiseFault_cpu_x (n : NStack) (c : FaultCause) : (n.raiseFault c).cpu.x = n.cpu.x := rfl
@[simp] theorem NStack.raiseFault_cpu_y (n : NStack) (c : FaultCause) : (n.raiseFault c).cpu.y = n.cpu.y := rfl
@[simp] theorem NStack.raiseFault_cpu_s (n : NStack) (c : FaultCause) : (n.raiseFault c).cpu.s = n.cpu.s := rfl
@[simp] theorem NStack.raiseFault_cpu_pc (n : NStack) (c : FaultCause) :
    (n.raiseFault c).cpu.pc = n.cpu.pc := rfl
@[simp] theorem NStack.raiseFault_cpu_p (n : NStack) (c : FaultCause) : (n.raiseFault c).cpu.p = n.cpu.p := rfl
@[simp] theorem NStack.raiseFault_cpu_nmiPending (n : NStack) (c : FaultCause) :
    (n.raiseFault c).cpu.nmiPending = n.cpu.nmiPending := rfl
@[simp] theorem NStack.raiseFault_cpu_irqLine (n : NStack) (c : FaultCause) :
    (n.raiseFault c).cpu.irqLine = n.cpu.irqLine := rfl
@[simp] theorem NStack.raiseFault_cpu_faulted (n : NStack) (c : FaultCause) :
    (n.raiseFault c).cpu.faulted = true := rfl
@[simp] theorem NStack.raiseFault_cpu_faultInfo (n : NStack) (c : FaultCause) :
    (n.raiseFault c).cpu.faultInfo = some ⟨c, n.cpu.pc⟩ := rfl
@[simp] theorem NStack.raiseFault_cycles (n : NStack) (c : FaultCause) : (n.raiseFault c).cycles = 0 := rfl

/-! `GStack.portEvent`, `GStack.start`, `GStack.mapCpu`, `GStack.stall`. -/

@[simp] theorem GStack.portEvent_cpu (g : GStack) (e : PortEvent) : (g.portEvent e).cpu = g.cpu := rfl
@[simp] theorem GStack.portEvent_dma (g : GStack) (e : PortEvent) : (g.portEvent e).dma = g.dma := rfl
@[simp] theorem GStack.portEvent_irq (g : GStack) (e : PortEvent) : (g.portEvent e).irq = g.irq := rfl
@[simp] theorem GStack.portEvent_timer (g : GStack) (e : PortEvent) : (g.portEvent e).timer = g.timer := rfl
@[simp] theorem GStack.portEvent_ppu (g : GStack) (e : PortEvent) : (g.portEvent e).ppu = g.ppu := rfl
@[simp] theorem GStack.portEvent_mem (g : GStack) (e : PortEvent) : (g.portEvent e).mem = g.mem := rfl
@[simp] theorem GStack.portEvent_mbc (g : GStack) (e : PortEvent) : (g.portEvent e).mbc = g.mbc := rfl
@[simp] theorem GStack.portEvent_joy (g : GStack) (e : PortEvent) : (g.portEvent e).joy = g.joy := rfl
@[simp] theorem GStack.portEvent_cart (g : GStack) (e : PortEvent) : (g.portEvent e).cart = g.cart := rfl
@[simp] theorem GStack.portEvent_frame (g : GStack) (e : PortEvent) : (g.portEvent e).frame = g.frame := rfl
@[simp] theorem GStack.portEvent_cycles (g : GStack) (e : PortEvent) : (g.portEvent e).cycles = g.cycles := rfl
@[simp] theorem GStack.portEvent_apuPort (g : GStack) (e : PortEvent) :
    (g.portEvent e).apuPort = e :: g.apuPort := rfl
@[simp] theorem GStack.start_dma (g : GStack) (len cost : Nat) : (g.start len cost).dma = g.dma := rfl
@[simp] theorem GStack.start_irq (g : GStack) (len cost : Nat) : (g.start len cost).irq = g.irq := rfl
@[simp] theorem GStack.start_timer (g : GStack) (len cost : Nat) : (g.start len cost).timer = g.timer := rfl
@[simp] theorem GStack.start_ppu (g : GStack) (len cost : Nat) : (g.start len cost).ppu = g.ppu := rfl
@[simp] theorem GStack.start_mem (g : GStack) (len cost : Nat) : (g.start len cost).mem = g.mem := rfl
@[simp] theorem GStack.start_mbc (g : GStack) (len cost : Nat) : (g.start len cost).mbc = g.mbc := rfl
@[simp] theorem GStack.start_joy (g : GStack) (len cost : Nat) : (g.start len cost).joy = g.joy := rfl
@[simp] theorem GStack.start_cart (g : GStack) (len cost : Nat) : (g.start len cost).cart = g.cart := rfl
@[simp] theorem GStack.start_apuPort (g : GStack) (len cost : Nat) :
    (g.start len cost).apuPort = g.apuPort := rfl
@[simp] theorem GStack.start_frame (g : GStack) (len cost : Nat) : (g.start len cost).frame = g.frame := rfl
@[simp] theorem GStack.start_cpu_a (g : GStack) (len cost : Nat) : (g.start len cost).cpu.a = g.cpu.a := rfl
@[simp] theorem GStack.start_cpu_f (g : GStack) (len cost : Nat) : (g.start len cost).cpu.f = g.cpu.f := rfl
@[simp] theorem GStack.start_cpu_b (g : GStack) (len cost : Nat) : (g.start len cost).cpu.b = g.cpu.b := rfl
@[simp] theorem GStack.start_cpu_c (g : GStack) (len cost : Nat) : (g.start len cost).cpu.c = g.cpu.c := rfl
@[simp] theorem GStack.start_cpu_d (g : GStack) (len cost : Nat) : (g.start len cost).cpu.d = g.cpu.d := rfl
@[simp] theorem GStack.start_cpu_e (g : GStack) (len cost : Nat) : (g.start len cost).cpu.e = g.cpu.e := rfl
@[simp] theorem GStack.start_cpu_h (g : GStack) (len cost : Nat) : (g.start len cost).cpu.h = g.cpu.h := rfl
@[simp] theorem GStack.start_cpu_l (g : GStack) (len cost : Nat) : (g.start len cost).cpu.l = g.cpu.l := rfl
@[simp] theorem GStack.start_cpu_sp (g : GStack) (len cost : Nat) : (g.start len cost).cpu.sp = g.cpu.sp := rfl
@[simp] theorem GStack.start_cpu_pc (g : GStack) (len cost : Nat) :
    (g.start len cost).cpu.pc = g.cpu.pc + BitVec.ofNat 16 len := rfl
@[simp] theorem GStack.start_cpu_ime (g : GStack) (len cost : Nat) :
    (g.start len cost).cpu.ime = g.cpu.ime := rfl
@[simp] theorem GStack.start_cpu_imeDelay (g : GStack) (len cost : Nat) :
    (g.start len cost).cpu.imeDelay = g.cpu.imeDelay := rfl
@[simp] theorem GStack.start_cpu_halted (g : GStack) (len cost : Nat) :
    (g.start len cost).cpu.halted = g.cpu.halted := rfl
@[simp] theorem GStack.start_cpu_stopped (g : GStack) (len cost : Nat) :
    (g.start len cost).cpu.stopped = g.cpu.stopped := rfl
@[simp] theorem GStack.start_cpu_faulted (g : GStack) (len cost : Nat) :
    (g.start len cost).cpu.faulted = g.cpu.faulted := rfl
@[simp] theorem GStack.start_cpu_faultInfo (g : GStack) (len cost : Nat) :
    (g.start len cost).cpu.faultInfo = g.cpu.faultInfo := rfl
@[simp] theorem GStack.start_cycles (g : GStack) (len cost : Nat) : (g.start len cost).cycles = cost := rfl
@[simp] theorem GStack.mapCpu_cpu (g : GStack) (k : Sm83 → Sm83) : (g.mapCpu k).cpu = k g.cpu := rfl
@[simp] theorem GStack.mapCpu_dma (g : GStack) (k : Sm83 → Sm83) : (g.mapCpu k).dma = g.dma := rfl
@[simp] theorem GStack.mapCpu_irq (g : GStack) (k : Sm83 → Sm83) : (g.mapCpu k).irq = g.irq := rfl
@[simp] theorem GStack.mapCpu_timer (g : GStack) (k : Sm83 → Sm83) : (g.mapCpu k).timer = g.timer := rfl
@[simp] theorem GStack.mapCpu_ppu (g : GStack) (k : Sm83 → Sm83) : (g.mapCpu k).ppu = g.ppu := rfl
@[simp] theorem GStack.mapCpu_mem (g : GStack) (k : Sm83 → Sm83) : (g.mapCpu k).mem = g.mem := rfl
@[simp] theorem GStack.mapCpu_mbc (g : GStack) (k : Sm83 → Sm83) : (g.mapCpu k).mbc = g.mbc := rfl
@[simp] theorem GStack.mapCpu_joy (g : GStack) (k : Sm83 → Sm83) : (g.mapCpu k).joy = g.joy := rfl
@[simp] theorem GStack.mapCpu_cart (g : GStack) (k : Sm83 → Sm83) : (g.mapCpu k).cart = g.cart := rfl
@[simp] theorem GStack.mapCpu_apuPort (g : GStack) (k : Sm83 → Sm83) : (g.mapCpu k).apuPort = g.apuPort := rfl
@[simp] theorem GStack.mapCpu_frame (g : GStack) (k : Sm83 → Sm83) : (g.mapCpu k).frame = g.frame := rfl
@[simp] theorem GStack.mapCpu_cycles (g : GStack) (k : Sm83 → Sm83) : (g.mapCpu k).cycles = g.cycles := rfl
@[simp] theorem GStack.stall_cpu (g : GStack) : g.stall.cpu = g.cpu := rfl
@[simp] theorem GStack.stall_dma (g : GStack) : g.stall.dma = g.dma := rfl
@[simp] theorem GStack.stall_irq (g : GStack) : g.stall.irq = g.irq := rfl
@[simp] theorem GStack.stall_timer (g : GStack) : g.stall.timer = g.timer := rfl
@[simp] theorem GStack.stall_ppu (g : GStack) : g.stall.ppu = g.ppu := rfl
@[simp] theorem GStack.stall_mem (g : GStack) : g.stall.mem = g.mem := rfl
@[simp] theorem GStack.stall_mbc (g : GStack) : g.stall.mbc = g.mbc := rfl
@[simp] theorem GStack.stall_joy (g : GStack) : g.stall.joy = g.joy := rfl
@[simp] theorem GStack.stall_cart (g : GStack) : g.stall.cart = g.cart := rfl
@[simp] theorem GStack.stall_apuPort (g : GStack) : g.stall.apuPort = g.apuPort := rfl
@[simp] theorem GStack.stall_frame (g : GStack) : g.stall.frame = g.frame := rfl
@[simp] theorem GStack.stall_cycles (g : GStack) : g.stall.cycles = Config.gHaltStall := rfl

/-! `GStack.raiseFault`. -/

@[simp] theorem GStack.raiseFault_dma (g : GStack) (c : FaultCause) : (g.raiseFault c).dma = g.dma := rfl
@[simp] theorem GStack.raiseFault_irq (g : GStack) (c : FaultCause) : (g.raiseFault c).irq = g.irq := rfl
@[simp] theorem GStack.raiseFault_timer (g : GStack) (c : FaultCause) : (g.raiseFault c).timer = g.timer := rfl
@[simp] theorem GStack.raiseFault_ppu (g : GStack) (c : FaultCause) : (g.raiseFault c).ppu = g.ppu := rfl
@[simp] theorem GStack.raiseFault_mem (g : GStack) (c : FaultCause) : (g.raiseFault c).mem = g.mem := rfl
@[simp] theorem GStack.raiseFault_mbc (g : GStack) (c : FaultCause) : (g.raiseFault c).mbc = g.mbc := rfl
@[simp] theorem GStack.raiseFault_joy (g : GStack) (c : FaultCause) : (g.raiseFault c).joy = g.joy := rfl
@[simp] theorem GStack.raiseFault_cart (g : GStack) (c : FaultCause) : (g.raiseFault c).cart = g.cart := rfl
@[simp] theorem GStack.raiseFault_apuPort (g : GStack) (c : FaultCause) :
    (g.raiseFault c).apuPort = g.apuPort := rfl
@[simp] theorem GStack.raiseFault_frame (g : GStack) (c : FaultCause) : (g.raiseFault c).frame = g.frame := rfl
@[simp] theorem GStack.raiseFault_cpu_a (g : GStack) (c : FaultCause) : (g.raiseFault c).cpu.a = g.cpu.a := rfl
@[simp] theorem GStack.raiseFault_cpu_f (g : GStack) (c : FaultCause) : (g.raiseFault c).cpu.f = g.cpu.f := rfl
@[simp] theorem GStack.raiseFault_cpu_b (g : GStack) (c : FaultCause) : (g.raiseFault c).cpu.b = g.cpu.b := rfl
@[simp] theorem GStack.raiseFault_cpu_c (g : GStack) (c : FaultCause) : (g.raiseFault c).cpu.c = g.cpu.c := rfl
@[simp] theorem GStack.raiseFault_cpu_d (g : GStack) (c : FaultCause) : (g.raiseFault c).cpu.d = g.cpu.d := rfl
@[simp] theorem GStack.raiseFault_cpu_e (g : GStack) (c : FaultCause) : (g.raiseFault c).cpu.e = g.cpu.e := rfl
@[simp] theorem GStack.raiseFault_cpu_h (g : GStack) (c : FaultCause) : (g.raiseFault c).cpu.h = g.cpu.h := rfl
@[simp] theorem GStack.raiseFault_cpu_l (g : GStack) (c : FaultCause) : (g.raiseFault c).cpu.l = g.cpu.l := rfl
@[simp] theorem GStack.raiseFault_cpu_sp (g : GStack) (c : FaultCause) :
    (g.raiseFault c).cpu.sp = g.cpu.sp := rfl
@[simp] theorem GStack.raiseFault_cpu_pc (g : GStack) (c : FaultCause) :
    (g.raiseFault c).cpu.pc = g.cpu.pc := rfl
@[simp] theorem GStack.raiseFault_cpu_ime (g : GStack) (c : FaultCause) :
    (g.raiseFault c).cpu.ime = g.cpu.ime := rfl
@[simp] theorem GStack.raiseFault_cpu_imeDelay (g : GStack) (c : FaultCause) :
    (g.raiseFault c).cpu.imeDelay = g.cpu.imeDelay := rfl
@[simp] theorem GStack.raiseFault_cpu_halted (g : GStack) (c : FaultCause) :
    (g.raiseFault c).cpu.halted = g.cpu.halted := rfl
@[simp] theorem GStack.raiseFault_cpu_stopped (g : GStack) (c : FaultCause) :
    (g.raiseFault c).cpu.stopped = g.cpu.stopped := rfl
@[simp] theorem GStack.raiseFault_cpu_faulted (g : GStack) (c : FaultCause) :
    (g.raiseFault c).cpu.faulted = true := rfl
@[simp] theorem GStack.raiseFault_cpu_faultInfo (g : GStack) (c : FaultCause) :
    (g.raiseFault c).cpu.faultInfo = some ⟨c, g.cpu.pc⟩ := rfl
@[simp] theorem GStack.raiseFault_cycles (g : GStack) (c : FaultCause) : (g.raiseFault c).cycles = 0 := rfl

/-! `GStack.tickIme`: it touches `IME` and `ime_delay` alone. -/

/-- All that the interrupt-enable tick does. -/
theorem GStack.tickIme_eq (g : GStack) :
    g.tickIme = { g with cpu := { g.cpu with
      ime := g.cpu.ime || decide (g.cpu.imeDelay = 1), imeDelay := g.cpu.imeDelay - 1 } } := by
  unfold GStack.tickIme
  split
  · rename_i h
    simp only [h, Nat.zero_sub]
    rw [show decide ((0 : Nat) = 1) = false from rfl, Bool.or_false, ← h]
  · split
    · rename_i h; simp [h]
    · rename_i h; simp [h]

@[simp] theorem GStack.tickIme_dma (g : GStack) : g.tickIme.dma = g.dma := by rw [tickIme_eq]
@[simp] theorem GStack.tickIme_irq (g : GStack) : g.tickIme.irq = g.irq := by rw [tickIme_eq]
@[simp] theorem GStack.tickIme_timer (g : GStack) : g.tickIme.timer = g.timer := by rw [tickIme_eq]
@[simp] theorem GStack.tickIme_ppu (g : GStack) : g.tickIme.ppu = g.ppu := by rw [tickIme_eq]
@[simp] theorem GStack.tickIme_mem (g : GStack) : g.tickIme.mem = g.mem := by rw [tickIme_eq]
@[simp] theorem GStack.tickIme_mbc (g : GStack) : g.tickIme.mbc = g.mbc := by rw [tickIme_eq]
@[simp] theorem GStack.tickIme_joy (g : GStack) : g.tickIme.joy = g.joy := by rw [tickIme_eq]
@[simp] theorem GStack.tickIme_cart (g : GStack) : g.tickIme.cart = g.cart := by rw [tickIme_eq]
@[simp] theorem GStack.tickIme_apuPort (g : GStack) : g.tickIme.apuPort = g.apuPort := by rw [tickIme_eq]
@[simp] theorem GStack.tickIme_frame (g : GStack) : g.tickIme.frame = g.frame := by rw [tickIme_eq]
@[simp] theorem GStack.tickIme_cycles (g : GStack) : g.tickIme.cycles = g.cycles := by rw [tickIme_eq]
@[simp] theorem GStack.tickIme_cpu_a (g : GStack) : g.tickIme.cpu.a = g.cpu.a := by rw [tickIme_eq]
@[simp] theorem GStack.tickIme_cpu_f (g : GStack) : g.tickIme.cpu.f = g.cpu.f := by rw [tickIme_eq]
@[simp] theorem GStack.tickIme_cpu_b (g : GStack) : g.tickIme.cpu.b = g.cpu.b := by rw [tickIme_eq]
@[simp] theorem GStack.tickIme_cpu_c (g : GStack) : g.tickIme.cpu.c = g.cpu.c := by rw [tickIme_eq]
@[simp] theorem GStack.tickIme_cpu_d (g : GStack) : g.tickIme.cpu.d = g.cpu.d := by rw [tickIme_eq]
@[simp] theorem GStack.tickIme_cpu_e (g : GStack) : g.tickIme.cpu.e = g.cpu.e := by rw [tickIme_eq]
@[simp] theorem GStack.tickIme_cpu_h (g : GStack) : g.tickIme.cpu.h = g.cpu.h := by rw [tickIme_eq]
@[simp] theorem GStack.tickIme_cpu_l (g : GStack) : g.tickIme.cpu.l = g.cpu.l := by rw [tickIme_eq]
@[simp] theorem GStack.tickIme_cpu_sp (g : GStack) : g.tickIme.cpu.sp = g.cpu.sp := by rw [tickIme_eq]
@[simp] theorem GStack.tickIme_cpu_pc (g : GStack) : g.tickIme.cpu.pc = g.cpu.pc := by rw [tickIme_eq]
@[simp] theorem GStack.tickIme_cpu_halted (g : GStack) : g.tickIme.cpu.halted = g.cpu.halted := by rw [tickIme_eq]
@[simp] theorem GStack.tickIme_cpu_stopped (g : GStack) : g.tickIme.cpu.stopped = g.cpu.stopped := by rw [tickIme_eq]
@[simp] theorem GStack.tickIme_cpu_faulted (g : GStack) : g.tickIme.cpu.faulted = g.cpu.faulted := by rw [tickIme_eq]
@[simp] theorem GStack.tickIme_cpu_faultInfo (g : GStack) : g.tickIme.cpu.faultInfo = g.cpu.faultInfo := by rw [tickIme_eq]

end Sys2Proof.Machine
end

