-- ==== Sys2Proof/Laws/Bus.lean ====
section
/-! SUPPORT. What a bus access can do: a read changes the joypad registers and the record of an external
unit alone; a write leaves the core, the cartridge, the driver and every other byte of storage alone. -/

namespace Sys2Proof.Machine

namespace NStack

/-- Everything a read can change (R113). -/
theorem read_after (n : NStack) (a : Word) :
    (n.read a).2 = { n with joy := (n.read a).2.joy, ppuPort := (n.read a).2.ppuPort } := by
  unfold read
  split
  · rfl
  · unfold readRegister
    split <;> rfl

@[simp] theorem read_cpu (n : NStack) (a : Word) : (n.read a).2.cpu = n.cpu := by rw [read_after]
@[simp] theorem read_dma (n : NStack) (a : Word) : (n.read a).2.dma = n.dma := by rw [read_after]
@[simp] theorem read_ram (n : NStack) (a : Word) : (n.read a).2.ram = n.ram := by rw [read_after]
@[simp] theorem read_prgRam (n : NStack) (a : Word) : (n.read a).2.prgRam = n.prgRam := by rw [read_after]
@[simp] theorem read_prgBank (n : NStack) (a : Word) : (n.read a).2.prgBank = n.prgBank := by
  rw [read_after]
@[simp] theorem read_chrBank (n : NStack) (a : Word) : (n.read a).2.chrBank = n.chrBank := by
  rw [read_after]
@[simp] theorem read_cart (n : NStack) (a : Word) : (n.read a).2.cart = n.cart := by rw [read_after]
@[simp] theorem read_frame (n : NStack) (a : Word) : (n.read a).2.frame = n.frame := by rw [read_after]
@[simp] theorem read_cycles (n : NStack) (a : Word) : (n.read a).2.cycles = n.cycles := by rw [read_after]
@[simp] theorem read_peek (n : NStack) (a : Word) (c : NCell) : (n.read a).2.peek c = n.peek c := by
  simp [peek]

/-- Everything a write can change. -/
theorem write_after (n : NStack) (a : Word) (v : Byte) :
    n.write a v = { n with
      dma := (n.write a v).dma, ram := (n.write a v).ram, prgRam := (n.write a v).prgRam
      prgBank := (n.write a v).prgBank, chrBank := (n.write a v).chrBank, joy := (n.write a v).joy
      ppuPort := (n.write a v).ppuPort } := by
  unfold write
  split
  · unfold poke
    split <;> rfl
  · unfold writeRegister
    split <;> try rfl
    unfold mapperWrite
    split <;> rfl

@[simp] theorem write_cpu (n : NStack) (a : Word) (v : Byte) : (n.write a v).cpu = n.cpu := by
  rw [write_after]
@[simp] theorem write_cart (n : NStack) (a : Word) (v : Byte) : (n.write a v).cart = n.cart := by
  rw [write_after]
@[simp] theorem write_frame (n : NStack) (a : Word) (v : Byte) : (n.write a v).frame = n.frame := by
  rw [write_after]
@[simp] theorem write_cycles (n : NStack) (a : Word) (v : Byte) : (n.write a v).cycles = n.cycles := by
  rw [write_after]

/-- A byte of storage that a write does not reach is unchanged. -/
theorem peek_poke_ne (n : NStack) {c d : NCell} (v : Byte) (h : d ≠ c) : (n.poke c v).peek d = n.peek d := by
  obtain ⟨r, o⟩ := c
  obtain ⟨r', o'⟩ := d
  cases r <;> cases r' <;> simp only [poke, peek] <;>
    exact Memory.read_write_ne _ _ (fun ho => h (by rw [ho]))

/-- A write to an address that reaches no storage leaves all storage alone. -/
theorem peek_writeRegister (n : NStack) (a : Word) (v : Byte) (c : NCell) :
    (n.writeRegister a v).peek c = n.peek c := by
  unfold writeRegister
  split <;> try rfl
  unfold mapperWrite
  split <;> rfl

/-- A write changes no byte of storage but the one that its address reaches. -/
theorem peek_write_ne (n : NStack) (a : Word) (v : Byte) {c : NCell} (h : n.cellOf a ≠ some c) :
    (n.write a v).peek c = n.peek c := by
  unfold write
  split
  · rename_i d hd
    exact peek_poke_ne n v (fun hc => h (by rw [hd, hc]))
  · exact peek_writeRegister n a v c

/-- A write of storage is read back (R72). -/
theorem peek_poke_self {n : NStack} (hr : n.ram.wf = true) (hp : n.prgRam.wf = true) (c : NCell) (v : Byte) :
    (n.poke c v).peek c = v := by
  obtain ⟨r, o⟩ := c
  cases r
  · exact Memory.read_write_self hr o v
  · exact Memory.read_write_self hp o v

end NStack

namespace GStack

/-- Everything a read can change (R113). -/
theorem readAs_after (m : BusMaster) (g : GStack) (a : Word) :
    (readAs m g a).2 = { g with apuPort := (readAs m g a).2.apuPort } := by
  unfold readAs
  split
  · rfl
  · unfold readRegister
    split <;> rfl

@[simp] theorem readAs_cpu (m : BusMaster) (g : GStack) (a : Word) : (readAs m g a).2.cpu = g.cpu := by
  rw [readAs_after]
@[simp] theorem readAs_dma (m : BusMaster) (g : GStack) (a : Word) : (readAs m g a).2.dma = g.dma := by
  rw [readAs_after]
@[simp] theorem readAs_irq (m : BusMaster) (g : GStack) (a : Word) : (readAs m g a).2.irq = g.irq := by
  rw [readAs_after]
@[simp] theorem readAs_timer (m : BusMaster) (g : GStack) (a : Word) :
    (readAs m g a).2.timer = g.timer := by rw [readAs_after]
@[simp] theorem readAs_ppu (m : BusMaster) (g : GStack) (a : Word) : (readAs m g a).2.ppu = g.ppu := by
  rw [readAs_after]
@[simp] theorem readAs_mem (m : BusMaster) (g : GStack) (a : Word) : (readAs m g a).2.mem = g.mem := by
  rw [readAs_after]
@[simp] theorem readAs_mbc (m : BusMaster) (g : GStack) (a : Word) : (readAs m g a).2.mbc = g.mbc := by
  rw [readAs_after]
@[simp] theorem readAs_joy (m : BusMaster) (g : GStack) (a : Word) : (readAs m g a).2.joy = g.joy := by
  rw [readAs_after]
@[simp] theorem readAs_cart (m : BusMaster) (g : GStack) (a : Word) : (readAs m g a).2.cart = g.cart := by
  rw [readAs_after]
@[simp] theorem readAs_frame (m : BusMaster) (g : GStack) (a : Word) :
    (readAs m g a).2.frame = g.frame := by rw [readAs_after]
@[simp] theorem readAs_cycles (m : BusMaster) (g : GStack) (a : Word) :
    (readAs m g a).2.cycles = g.cycles := by rw [readAs_after]

/-- A read by the CPU is a read by a bus master. -/
theorem read_eq (g : GStack) (a : Word) : g.read a = readAs .cpu g a := rfl

theorem read_after (g : GStack) (a : Word) :
    (g.read a).2 = { g with apuPort := (g.read a).2.apuPort } := readAs_after .cpu g a

@[simp] theorem read_cpu (g : GStack) (a : Word) : (g.read a).2.cpu = g.cpu := readAs_cpu ..
@[simp] theorem read_dma (g : GStack) (a : Word) : (g.read a).2.dma = g.dma := readAs_dma ..
@[simp] theorem read_irq (g : GStack) (a : Word) : (g.read a).2.irq = g.irq := readAs_irq ..
@[simp] theorem read_timer (g : GStack) (a : Word) : (g.read a).2.timer = g.timer := readAs_timer ..
@[simp] theorem read_ppu (g : GStack) (a : Word) : (g.read a).2.ppu = g.ppu := readAs_ppu ..
@[simp] theorem read_mem (g : GStack) (a : Word) : (g.read a).2.mem = g.mem := readAs_mem ..
@[simp] theorem read_mbc (g : GStack) (a : Word) : (g.read a).2.mbc = g.mbc := readAs_mbc ..
@[simp] theorem read_joy (g : GStack) (a : Word) : (g.read a).2.joy = g.joy := readAs_joy ..
@[simp] theorem read_cart (g : GStack) (a : Word) : (g.read a).2.cart = g.cart := readAs_cart ..
@[simp] theorem read_frame (g : GStack) (a : Word) : (g.read a).2.frame = g.frame := readAs_frame ..
@[simp] theorem read_cycles (g : GStack) (a : Word) : (g.read a).2.cycles = g.cycles := readAs_cycles ..

theorem mbcWrite_after (g : GStack) (a : Nat) (v : Byte) :
    g.mbcWrite a v = { g with mbc := (g.mbcWrite a v).mbc } := by
  unfold mbcWrite
  split
  · rfl
  · split
    · rfl
    · split
      · rfl
      · split <;> rfl

/-- Everything a write can change. -/
theorem write_after (g : GStack) (a : Word) (v : Byte) :
    g.write a v = { g with
      dma := (g.write a v).dma, irq := (g.write a v).irq, timer := (g.write a v).timer
      ppu := (g.write a v).ppu, mem := (g.write a v).mem, mbc := (g.write a v).mbc
      joy := (g.write a v).joy, apuPort := (g.write a v).apuPort } := by
  unfold write
  split
  · unfold poke
    split <;> rfl
  · unfold writeRegister
    split <;> first | rfl | (rw [mbcWrite_after])

@[simp] theorem write_cpu (g : GStack) (a : Word) (v : Byte) : (g.write a v).cpu = g.cpu := by
  rw [write_after]
@[simp] theorem write_cart (g : GStack) (a : Word) (v : Byte) : (g.write a v).cart = g.cart := by
  rw [write_after]
@[simp] theorem write_frame (g : GStack) (a : Word) (v : Byte) : (g.write a v).frame = g.frame := by
  rw [write_after]
@[simp] theorem write_cycles (g : GStack) (a : Word) (v : Byte) : (g.write a v).cycles = g.cycles := by
  rw [write_after]

/-- A byte of storage that a write does not reach is unchanged. -/
theorem peek_poke_ne (g : GStack) {c d : GCell} (v : Byte) (h : d ≠ c) : (g.poke c v).peek d = g.peek d := by
  obtain ⟨r, o⟩ := c
  obtain ⟨r', o'⟩ := d
  cases r <;> cases r' <;> first | rfl |
    (simp only [poke, peek]; exact Memory.read_write_ne _ _ (fun ho => h (by rw [ho])))

/-- A write to an address that reaches no storage leaves all storage alone. -/
theorem peek_writeRegister (g : GStack) (a : Word) (v : Byte) (c : GCell) :
    (g.writeRegister a v).peek c = g.peek c := by
  unfold writeRegister
  split <;> first | rfl | (rw [mbcWrite_after]; rfl)

/-- A write changes no byte of storage but the one that its address reaches. -/
theorem peek_write_ne (g : GStack) (a : Word) (v : Byte) {c : GCell} (h : g.cellOf .cpu a ≠ some c) :
    (g.write a v).peek c = g.peek c := by
  unfold write
  split
  · rename_i d hd
    exact peek_poke_ne g v (fun hc => h (by rw [hd, hc]))
  · exact peek_writeRegister g a v c

end GStack

end Sys2Proof.Machine
end

