-- ==== Sys2Proof/Laws/Ops.lean ====
section
/-! SUPPORT. What each shared operation can do, said once: the hardware stacks and the interrupt entry of the
M6502 in terms of `ram`, the effective addresses, the three shapes of an M6502 instruction, the stack and the
interrupt entry of the SM83, the shape of an SM83 instruction, and the head of a `Step`. -/

namespace Sys2Proof.Machine

/-- `repeatN` is iteration. -/
theorem repeatN_eq_iterate {α : Type} (f : α → α) (k : Nat) (a : α) : repeatN f k a = f^[k] a := by
  induction k generalizing a with
  | zero => rfl
  | succ k ih => exact ih (f a)

/-- An induction packaged once: what `f` keeps, its repetition keeps. -/
theorem repeatN_keeps {α : Type} {P : α → Prop} {f : α → α} (hf : ∀ a, P a → P (f a)) (k : Nat) {a : α}
    (h : P a) : P (repeatN f k a) := by
  induction k generalizing a with
  | zero => exact h
  | succ k ih => exact ih (hf a h)

theorem repeatN_add {α : Type} (f : α → α) (k l : Nat) (a : α) :
    repeatN f (k + l) a = repeatN f l (repeatN f k a) := by
  induction k generalizing a with
  | zero => simp [repeatN]
  | succ k ih => rw [Nat.succ_add]; exact ih (f a)

/-! ## Words and bytes -/

@[simp] theorem toNat_hiByte (v : Word) : (hiByte v).toNat = v.toNat / 256 := by
  simp only [hiByte, BitVec.extractLsb'_toNat, Nat.shiftRight_eq_div_pow]
  omega

@[simp] theorem toNat_loByte (v : Word) : (loByte v).toNat = v.toNat % 256 := by
  simp [loByte, BitVec.extractLsb'_toNat]

@[simp] theorem toNat_join (h l : Byte) : (join h l).toNat = 256 * h.toNat + l.toNat := by
  have := Nat.shiftLeft_add_eq_or_of_lt l.isLt h.toNat
  rw [Nat.shiftLeft_eq] at this
  simp only [join, BitVec.toNat_append, Nat.shiftLeft_eq]
  omega

@[simp] theorem toNat_zext16 (b : Byte) : (zext16 b).toNat = b.toNat := by
  simp only [zext16, BitVec.truncate_eq_setWidth, BitVec.toNat_setWidth]
  omega

@[simp] theorem hiByte_join (h l : Byte) : hiByte (join h l) = h := by
  apply BitVec.eq_of_toNat_eq; simp; omega

@[simp] theorem loByte_join (h l : Byte) : loByte (join h l) = l := by
  apply BitVec.eq_of_toNat_eq; simp; omega

@[simp] theorem join_hiByte_loByte (v : Word) : join (hiByte v) (loByte v) = v := by
  apply BitVec.eq_of_toNat_eq; simp; omega

/-- A sign extension is the signed value narrowed to 16 bits. -/
theorem sext16_eq (b : Byte) : sext16 b = BitVec.ofInt 16 b.toInt := by
  simp [sext16, BitVec.signExtend]

/-! ## The N-stack -/

namespace NStack

theorem toNat_stackAddr (s : Byte) : (stackAddr s).toNat = 0x100 + s.toNat := by
  have := s.isLt
  simp only [stackAddr, BitVec.toNat_add, toNat_zext16]
  change (256 + s.toNat) % 65536 = _
  omega

/-- A read below 0x2000 is a read of `ram` and nothing else (R73, R75). -/
theorem read_ram_of_lt (n : NStack) {a : Word} (h : a.toNat < 0x2000) :
    n.read a = (n.ram.read (a.toNat % 0x800), n) := by
  simp [read, cellOf, nClaim, h, peek]

/-- A write below 0x2000 is a write of `ram` and nothing else. -/
theorem write_ram_of_lt (n : NStack) {a : Word} (h : a.toNat < 0x2000) (v : Byte) :
    n.write a v = { n with ram := n.ram.write (a.toNat % 0x800) v } := by
  simp [write, cellOf, nClaim, h, poke]

/-- A read of 0x8000 and above is a read of the program ROM (R117 to R119). -/
theorem read_rom_of_le (n : NStack) {a : Word} (h : 0x8000 ≤ a.toNat) :
    n.read a = (n.cart.prgRom.read (n.cart.romOffset n.prgBank (a.toNat - 0x8000)), n) := by
  simp only [read, cellOf, readRegister, nClaim]
  split_ifs <;> first | omega | rfl

@[simp] theorem read_stackAddr (n : NStack) (s : Byte) :
    n.read (stackAddr s) = (n.ram.read (0x100 + s.toNat), n) := by
  have := s.isLt
  rw [read_ram_of_lt n (by rw [toNat_stackAddr]; omega), toNat_stackAddr, Nat.mod_eq_of_lt (by omega)]

@[simp] theorem write_stackAddr (n : NStack) (s v : Byte) :
    n.write (stackAddr s) v = { n with ram := n.ram.write (0x100 + s.toNat) v } := by
  have := s.isLt
  rw [write_ram_of_lt n (by rw [toNat_stackAddr]; omega), toNat_stackAddr, Nat.mod_eq_of_lt (by omega)]

/-- `Push8` is a write of `ram` and a step of `S` (R202). -/
theorem push8_eq (n : NStack) (v : Byte) :
    n.push8 v = { n with
      ram := n.ram.write (0x100 + n.cpu.s.toNat) v
      cpu := { n.cpu with s := n.cpu.s - 1 } } := by
  simp [push8]

theorem pushWord_eq (n : NStack) (v : Word) :
    n.pushWord v = { n with
      ram := (n.ram.write (0x100 + n.cpu.s.toNat) (hiByte v)).write (0x100 + (n.cpu.s - 1).toNat) (loByte v)
      cpu := { n.cpu with s := n.cpu.s - 2 } } := by
  have : n.cpu.s - 1 - 1 = n.cpu.s - 2 := by bv_omega
  simp only [pushWord, push8_eq, this]

/-- `Pull8` is a read of `ram` and a step of `S` (R202). -/
theorem pull8_eq (n : NStack) :
    n.pull8 = (n.ram.read (0x100 + (n.cpu.s + 1).toNat), { n with cpu := { n.cpu with s := n.cpu.s + 1 } }) := by
  simp [pull8]

theorem pullWord_eq (n : NStack) :
    n.pullWord = (join (n.ram.read (0x100 + (n.cpu.s + 2).toNat)) (n.ram.read (0x100 + (n.cpu.s + 1).toNat)),
      { n with cpu := { n.cpu with s := n.cpu.s + 2 } }) := by
  have : n.cpu.s + 1 + 1 = n.cpu.s + 2 := by bv_omega
  simp only [pullWord, pull8_eq, this]

/-- A vector is a pair of ROM bytes, and reading it changes nothing. -/
theorem readPair_rom (n : NStack) {lo hi : Word} (hl : 0x8000 ≤ lo.toNat) (hh : 0x8000 ≤ hi.toNat) :
    n.readPair lo hi =
      (join (n.cart.prgRom.read (n.cart.romOffset n.prgBank (hi.toNat - 0x8000)))
        (n.cart.prgRom.read (n.cart.romOffset n.prgBank (lo.toNat - 0x8000))), n) := by
  simp [readPair, read_rom_of_le n hl, read_rom_of_le n hh]

/-- An interrupt entry: three bytes of the stack page, `S`, `I` and `PC`, and nothing else (R274, R520, R521). -/
theorem enterInterrupt_eq (n : NStack) (ret : Word) (b : Bool) {vector : Word} (hl : 0x8000 ≤ vector.toNat)
    (hh : vector.toNat < 0xFFFF) :
    n.enterInterrupt ret b vector = { n with
      ram := ((n.ram.write (0x100 + n.cpu.s.toNat) (hiByte ret)).write (0x100 + (n.cpu.s - 1).toNat)
        (loByte ret)).write (0x100 + (n.cpu.s - 2).toNat) (n.cpu.p.pack b)
      cpu := { n.cpu with
        s := n.cpu.s - 3
        p := { n.cpu.p with i := true }
        pc := join (n.cart.prgRom.read (n.cart.romOffset n.prgBank (vector.toNat + 1 - 0x8000)))
          (n.cart.prgRom.read (n.cart.romOffset n.prgBank (vector.toNat - 0x8000))) } } := by
  have h3 : n.cpu.s - 2 - 1 = n.cpu.s - 3 := by bv_omega
  have h1 : (vector + 1).toNat = vector.toNat + 1 := by
    rw [BitVec.toNat_add]; change (vector.toNat + 1) % 65536 = _; omega
  simp only [enterInterrupt, pushWord_eq, push8_eq, h3,
    readPair_rom _ hl (by omega : 0x8000 ≤ (vector + 1).toNat), h1]

/-- A return from an interrupt: `S`, the flags and `PC`, and nothing else (R273). -/
theorem returnFromInterrupt_eq (n : NStack) :
    n.returnFromInterrupt = { n with cpu := { n.cpu with
      s := n.cpu.s + 3
      p := M6502Flags.unpack (n.ram.read (0x100 + (n.cpu.s + 1).toNat))
      pc := join (n.ram.read (0x100 + (n.cpu.s + 3).toNat)) (n.ram.read (0x100 + (n.cpu.s + 2).toNat)) } } := by
  have h2 : n.cpu.s + 1 + 1 = n.cpu.s + 2 := by bv_omega
  have h3 : n.cpu.s + 1 + 2 = n.cpu.s + 3 := by bv_omega
  simp only [returnFromInterrupt, pull8_eq, pullWord_eq, h2, h3]

/-- A zero-page pointer lies in `ram` (R153, R154). -/
theorem zeroPagePointer_eq (n : NStack) (p : Byte) :
    n.zeroPagePointer p = (join (n.ram.read (p + 1).toNat) (n.ram.read p.toNat), n) := by
  have h := p.isLt
  have h' := (p + 1).isLt
  have e (b : Byte) : n.read (zext16 b) = (n.ram.read b.toNat, n) := by
    have := b.isLt
    rw [read_ram_of_lt n (by rw [toNat_zext16]; omega), toNat_zext16, Nat.mod_eq_of_lt (by omega)]
  simp [zeroPagePointer, readPair, e]

/-- Computing an effective address changes nothing. -/
@[simp] theorem resolve_after (n : NStack) (o : Operand) : (n.resolve o).after = n := by
  cases o <;> simp [resolve, zeroPagePointer_eq]

/-- Only the indexed modes of reads cross a page. -/
theorem resolve_crossed {n : NStack} {o : Operand} (h : (n.resolve o).crossed = true) :
    o.mode = .abx ∨ o.mode = .aby ∨ o.mode = .izy := by
  cases o <;> simp_all [resolve, Operand.mode]

/-- An operand other than an immediate is one read of its effective address. -/
theorem readOperand_of_ne_imm (n : NStack) {o : Operand} (h : o.mode ≠ .imm) :
    n.readOperand o = ⟨(n.read (n.resolve o).ea).1, (n.resolve o).crossed, (n.read (n.resolve o).ea).2⟩ := by
  cases o <;> first | exact absurd rfl h | simp [readOperand]

/-- Reading an operand changes a joypad register or the record of the picture unit at most. -/
theorem readOperand_after (n : NStack) (o : Operand) :
    (n.readOperand o).after = { n with
      joy := (n.readOperand o).after.joy, ppuPort := (n.readOperand o).after.ppuPort } := by
  by_cases h : o.mode = .imm
  · cases o <;> first | rfl | exact absurd h (by simp [Operand.mode])
  · rw [readOperand_of_ne_imm n h]
    exact read_after n _

@[simp] theorem readOperand_cpu (n : NStack) (o : Operand) : (n.readOperand o).after.cpu = n.cpu := by
  rw [readOperand_after]

/-- A reading instruction: the registers by `f` of the operand, `PC` past it, the mode's cost. -/
theorem readInstr_eq (n : NStack) (o : Operand) (f : Byte → M6502 → M6502) :
    n.readInstr o f = { (n.readOperand o).after with
      cpu := { f (n.readOperand o).value n.cpu with
        pc := (f (n.readOperand o).value n.cpu).pc + BitVec.ofNat 16 o.length }
      cycles := readCycles o.mode + b2n (n.readOperand o).crossed } := by
  simp [readInstr, next]

/-- A storing instruction: one write of the effective address. -/
theorem storeInstr_eq (n : NStack) (o : Operand) (v : M6502 → Byte) :
    n.storeInstr o v = { n.write (n.resolve o).ea (v n.cpu) with
      cpu := { n.cpu with pc := n.cpu.pc + BitVec.ofNat 16 o.length }
      cycles := storeCycles o.mode } := by
  simp [storeInstr, next]

/-- A read-modify-write instruction: one read and one write of the effective address (R232). -/
theorem rmwInstr_eq (n : NStack) (o : Operand) (f : M6502Flags → Byte → Byte × M6502Flags) :
    n.rmwInstr o f = { (n.read (n.resolve o).ea).2.write (n.resolve o).ea
        (f n.cpu.p (n.read (n.resolve o).ea).1).1 with
      cpu := { n.cpu with
        p := (f n.cpu.p (n.read (n.resolve o).ea).1).2
        pc := n.cpu.pc + BitVec.ofNat 16 o.length }
      cycles := rmwCycles o.mode } := by
  simp [rmwInstr, next]

end NStack

/-! ## The G-stack -/

namespace GStack

/-- What `Push16` changes of the core: `SP` alone (R350). -/
@[simp] theorem push16_cpu (g : GStack) (v : Word) :
    (g.push16 v).cpu = { g.cpu with sp := g.cpu.sp - 2 } := by
  simp [push16]

/-- What `Pop16` changes: `SP`, and the record of the audio unit at most. -/
theorem pop16_after (g : GStack) :
    g.pop16.2 = { g with cpu := { g.cpu with sp := g.cpu.sp + 2 }, apuPort := g.pop16.2.apuPort } := by
  simp only [pop16]
  rw [read_after (g.read g.cpu.sp).2, read_after g]

@[simp] theorem pop16_cpu (g : GStack) : g.pop16.2.cpu = { g.cpu with sp := g.cpu.sp + 2 } := by
  rw [pop16_after]

/-- The shape of every SM83 instruction (R310). -/
theorem instr_eq (len cost : Nat) (op : GStack → GStack) (g : GStack) :
    instr len cost op g =
      let h := op (g.start len cost)
      { h with cpu := { h.cpu with
          ime := h.cpu.ime || decide (h.cpu.imeDelay = 1), imeDelay := h.cpu.imeDelay - 1 } } :=
  tickIme_eq _

@[simp] theorem get8_cpu (g : GStack) (r : R8) : (g.get8 r).2.cpu = g.cpu := by
  unfold get8
  split <;> simp

/-- The lowest set bit of a non-zero set of requests is set, and no lower one is (R526). -/
theorem lowestBit_spec {p : BitVec 5} (h : p ≠ 0) :
    lowestBit p < 5 ∧ p.getLsbD (lowestBit p) = true ∧ ∀ j < lowestBit p, p.getLsbD j = false := by
  revert h; revert p; decide

/-- An interrupt entry (R528) in terms of `Push16`. -/
theorem serviceInterrupt_cpu (g : GStack) :
    g.serviceInterrupt.cpu = { g.cpu with
      ime := false, imeDelay := 0, halted := false, stopped := false
      sp := g.cpu.sp - 2, pc := vectorOf (lowestBit g.irq.pending) } := by
  simp [serviceInterrupt]

end GStack

end Sys2Proof.Machine
end

