-- ==== Sys2Proof/Laws/Inv.lean ====
section
/-! SUPPORT. The shared operations keep the invariants of `Safety.lean`: reads and writes of both buses, the
timer, the dots of the picture unit, and the driver's count. -/

namespace Sys2Proof.Machine

/-- A frame driver that counts below its budget goes on doing so, and carries less than the `Step` took (R126). -/
theorem FrameDriver.add_spec {budget c k : Nat} {f : FrameDriver} (hc : c ≤ k + 1) (hk : k < budget)
    (hf : f.count < budget) (hcarry : f.carry ≤ k) :
    (f.add budget c).count < budget ∧ (f.add budget c).carry ≤ k := by
  unfold FrameDriver.add
  split
  · constructor <;> dsimp only <;> omega
  · exact ⟨by dsimp only; omega, hcarry⟩

/-! ## The N-stack -/

namespace NStack.Inv

theorem read {n : NStack} (h : n.Inv) (a : Word) : (n.read a).2.Inv := by
  rw [NStack.read_after]
  exact ⟨h.ram, h.prgRam, h.prgRom, h.prgUnits, h.dmaIndex, h.dmaActive, h.fault, h.carry, h.count⟩

theorem poke {n : NStack} (h : n.Inv) {a : Word} {c : NCell} (hc : n.cellOf a = some c) (v : Byte) :
    (n.poke c v).Inv := by
  have ha := a.isLt
  unfold NStack.cellOf nClaim at hc
  dsimp only at hc
  split_ifs at hc <;> simp only [Option.some.injEq] at hc <;> subst hc
  · exact ⟨h.ram.write (Nat.mod_lt _ (by decide)) v, h.prgRam, h.prgRom, h.prgUnits, h.dmaIndex, h.dmaActive,
      h.fault, h.carry, h.count⟩
  · exact ⟨h.ram, h.prgRam.write (by omega) v, h.prgRom, h.prgUnits, h.dmaIndex, h.dmaActive, h.fault,
      h.carry, h.count⟩

theorem write {n : NStack} (h : n.Inv) (a : Word) (v : Byte) : (n.write a v).Inv := by
  unfold NStack.write
  split
  · rename_i c hc
    exact h.poke hc v
  · unfold NStack.writeRegister
    split
    case h_2 =>
      exact ⟨h.ram, h.prgRam, h.prgRom, h.prgUnits, Nat.zero_le _, fun _ => Nat.zero_lt_succ _, h.fault, h.carry,
        h.count⟩
    all_goals first | exact h | skip
    all_goals first
      | exact ⟨h.ram, h.prgRam, h.prgRom, h.prgUnits, h.dmaIndex, h.dmaActive, h.fault, h.carry, h.count⟩
      | skip
    unfold NStack.mapperWrite
    split
    · exact h
    · exact ⟨h.ram, h.prgRam, h.prgRom, h.prgUnits, h.dmaIndex, h.dmaActive, h.fault, h.carry, h.count⟩
    · exact ⟨h.ram, h.prgRam, h.prgRom, h.prgUnits, h.dmaIndex, h.dmaActive, h.fault, h.carry, h.count⟩

end NStack.Inv

/-! ## The timer -/

/-- The overflow delay stays in its range (R56, R564). -/
theorem GTimer.tick_ovfDelay {t : GTimer} {q : GIrq} (h : t.ovfDelay ≤ Config.timerReloadDelay) :
    (GTimer.tick (t, q)).1.ovfDelay ≤ Config.timerReloadDelay := by
  have hi (u : GTimer) (hu : u.ovfDelay ≤ Config.timerReloadDelay) :
      u.tickDivider.ovfDelay ≤ Config.timerReloadDelay := by
    unfold GTimer.tickDivider
    dsimp only
    split
    · unfold GTimer.timaInc
      split
      · exact le_refl _
      · exact hu
    · exact hu
  have hd : (GTimer.tickDelay t q).1.ovfDelay ≤ Config.timerReloadDelay := by
    unfold GTimer.tickDelay
    split
    · exact h
    · split
      · exact Nat.zero_le _
      · exact le_trans (Nat.sub_le _ _) h
  exact hi _ hd

theorem GTimer.advance_ovfDelay {t : GTimer} {q : GIrq} (c : Nat)
    (h : t.ovfDelay ≤ Config.timerReloadDelay) :
    (t.advance c q).1.ovfDelay ≤ Config.timerReloadDelay :=
  repeatN_keeps (P := fun p : GTimer × GIrq => p.1.ovfDelay ≤ Config.timerReloadDelay)
    (fun p hp => GTimer.tick_ovfDelay (t := p.1) (q := p.2) hp) c h

/-! ## The picture unit -/

namespace GPpu

theorem mem_insertSprite {oam : Memory} {i j : Nat} {l : List Nat} :
    j ∈ insertSprite oam i l ↔ j = i ∨ j ∈ l := by
  induction l with
  | nil => simp [insertSprite]
  | cons k rest ih =>
    unfold insertSprite
    split
    · simp
    · simp only [List.mem_cons, ih]
      tauto

theorem length_insertSprite (oam : Memory) (i : Nat) (l : List Nat) :
    (insertSprite oam i l).length = l.length + 1 := by
  induction l with
  | nil => rfl
  | cons k rest ih =>
    unfold insertSprite
    split <;> simp_all

theorem mem_sortSprites {oam : Memory} {j : Nat} {l : List Nat} : j ∈ sortSprites oam l ↔ j ∈ l := by
  induction l with
  | nil => rfl
  | cons k rest ih => simp [sortSprites, mem_insertSprite, ih]

theorem length_sortSprites (oam : Memory) (l : List Nat) : (sortSprites oam l).length = l.length := by
  induction l with
  | nil => rfl
  | cons k rest ih => simp [sortSprites, length_insertSprite, ih]

/-- At most ten sprites of a line (R595). -/
theorem length_selectSprites (p : GPpu) (oam : Memory) (ly : Nat) :
    (p.selectSprites oam ly).length ≤ Config.ppuSpritesPerLine := by
  unfold selectSprites chosenSprites
  rw [length_sortSprites]
  split
  · exact List.length_take_le _ _
  · exact Nat.zero_le _

/-- Every chosen sprite is one of the forty (R595). -/
theorem lt_of_mem_selectSprites {p : GPpu} {oam : Memory} {ly i : Nat} (h : i ∈ p.selectSprites oam ly) :
    i < Config.ppuSprites := by
  unfold selectSprites chosenSprites at h
  rw [mem_sortSprites] at h
  split at h
  · exact List.mem_range.mp (List.mem_filter.mp (List.mem_of_mem_take h)).1
  · simp at h

theorem length_renderRow (p : GPpu) (vram oam : Memory) (ly : Nat) (sprites : List Nat) :
    (p.renderRow vram oam ly sprites).length = Config.ppuWidth := by
  simp [renderRow]

theorem enterLine_lcdc (n : Nat) (p : GPpu) (q : GIrq) : (enterLine n p q).1.lcdc = p.lcdc := by
  unfold enterLine
  dsimp only
  split_ifs <;> rfl

/-- A dot does not change LCDC (R577). -/
theorem dotTick_lcdc (vram oam : Memory) (p : GPpu) (q : GIrq) :
    (dotTick vram oam (p, q)).1.lcdc = p.lcdc := by
  have hm (r : GPpu) (q : GIrq) : (dotModes vram oam r q).1.lcdc = r.lcdc := by
    unfold dotModes
    split_ifs <;> rfl
  have he (r : GPpu) (q : GIrq) : (dotLineEnd r q).1.lcdc = r.lcdc := by
    unfold dotLineEnd
    split_ifs
    · exact enterLine_lcdc ..
    · exact enterLine_lcdc ..
    · rfl
  unfold dotTick
  exact (he _ _).trans (hm _ _)

theorem dotTick_lcdOn (vram oam : Memory) (p : GPpu) (q : GIrq) :
    (dotTick vram oam (p, q)).1.lcdOn = p.lcdOn :=
  congrArg (fun b : Byte => b.getLsbD 7) (dotTick_lcdc vram oam p q)

end GPpu

/-- Away from dots 80 and 252 the mode of a line does not change (R577). -/
theorem PpuMode.at_succ {ly dot : Nat} (h1 : dot + 1 ≠ 80) (h2 : dot + 1 ≠ 252) :
    PpuMode.at ly (dot + 1) = PpuMode.at ly dot := by
  simp only [PpuMode.at, Config.ppuVisible, Config.ppuMode2Dots, Config.ppuMode3Dots]
  by_cases h : ly < 144
  · by_cases ha : dot < 80
    · have hb : dot + 1 < 80 := by omega
      simp [h, ha, hb]
    · have hb : ¬ dot + 1 < 80 := by omega
      have hc : dot + 1 < 252 ↔ dot < 252 := by omega
      simp only [h, ha, hb, hc, if_true, if_false, Nat.reduceAdd]; rfl
  · simp [h]

namespace GPpu.Inv

/-- The entry to line `n` with the LCD on keeps the invariant (R578). -/
theorem enterLine {p : GPpu} {q : GIrq} {n : Nat} (hn : n < Config.ppuLines) (hon : p.lcdOn = true)
    (hd : p.dot = 0) (hm : Config.ppuVisible < n → p.mode = .vblank)
    (hs : p.lineSprites.length ≤ Config.ppuSpritesPerLine) (hi : ∀ i ∈ p.lineSprites, i < Config.ppuSprites)
    (hf : p.framebuffer.Ok) (hb : p.frontBuffer.Ok) : (GPpu.enterLine n p q).1.Inv := by
  have hn' : n < 154 := hn
  have hly : (BitVec.ofNat 8 n : Byte).toNat = n := by simp; omega
  unfold GPpu.enterLine
  dsimp only
  split
  · rename_i h0
    subst h0
    exact ⟨by simp [hly, Config.ppuLines], by simp [hd, Config.ppuDots], fun _ => by
      simp [hd, PpuMode.at, Config.ppuVisible, Config.ppuMode2Dots], fun h => by
      simp [GPpu.lcdOn] at h hon; simp [hon] at h, hs, hi, hf, hb⟩
  · split
    · rename_i h0 h1
      exact ⟨by rw [hly]; exact hn, by simp [hd, Config.ppuDots], fun _ => by
        simp [hd, hly, h1, PpuMode.at, Config.ppuMode2Dots], fun h => by
        simp [GPpu.lcdOn] at h hon; simp [hon] at h, hs, hi, hf, hb⟩
    · split
      · rename_i h0 h1 h2
        exact ⟨by rw [hly]; exact hn, by simp [hd, Config.ppuDots], fun _ => by
          simp [hly, h1, PpuMode.at], fun h => by
          simp [GPpu.lcdOn] at h hon; simp [hon] at h, hs, hi, hf, hf⟩
      · rename_i h0 h1 h2
        have hv : Config.ppuVisible < n := by omega
        exact ⟨by rw [hly]; exact hn, by simp [hd, Config.ppuDots], fun _ => by
          simp [hly, h1, PpuMode.at, hm hv], fun h => by
          simp [GPpu.lcdOn] at h hon; simp [hon] at h, hs, hi, hf, hb⟩

/-- A dot keeps the invariant (R577). -/
theorem dotTick {p : GPpu} {q : GIrq} (vram oam : Memory) (h : p.Inv) (hon : p.lcdOn = true) :
    (GPpu.dotTick vram oam (p, q)).1.Inv := by
  have hdot : p.dot < 456 := h.dot
  have hly : p.ly.toNat < 154 := h.ly
  have hmode := h.modeOn hon
  have off {p' : GPpu} (he : p'.lcdc = p.lcdc) (hp : p'.lcdOn = false) : False := by
    simp only [GPpu.lcdOn, he] at hp hon
    rw [hon] at hp
    cases hp
  have hnext : (if p.ly.toNat = Config.ppuLines - 1 then 0 else p.ly.toNat + 1) < Config.ppuLines := by
    by_cases h153 : p.ly.toNat = Config.ppuLines - 1
    · rw [if_pos h153]; decide
    · have : Config.ppuLines = 154 := rfl
      rw [if_neg h153]; omega
  unfold GPpu.dotTick GPpu.dotModes
  dsimp only
  by_cases hv : p.ly.toNat < Config.ppuVisible
  · have hv' : p.ly.toNat < 144 := hv
    rw [if_pos hv]
    by_cases h80 : p.dot + 1 = Config.ppuMode2Dots
    · have h80' : p.dot + 1 = 80 := h80
      rw [if_pos h80]
      unfold GPpu.dotLineEnd
      rw [if_neg (by simp only [Config.ppuDots]; omega)]
      exact ⟨h.ly, by simp only [Config.ppuDots]; omega, fun _ => by
        simp [PpuMode.at, hv, h80', Config.ppuMode2Dots, Config.ppuMode3Dots],
        fun hp => (off rfl hp).elim, h.sprites, h.spriteIndex, h.framebuffer, h.frontBuffer⟩
    · have h80' : p.dot + 1 ≠ 80 := h80
      rw [if_neg h80]
      by_cases h252 : p.dot + 1 = Config.ppuMode2Dots + Config.ppuMode3Dots
      · have h252' : p.dot + 1 = 252 := h252
        rw [if_pos h252]
        unfold GPpu.dotLineEnd
        rw [if_neg (by simp only [Config.ppuDots, renderLine]; omega)]
        exact ⟨h.ly, by simp only [Config.ppuDots, renderLine]; omega, fun _ => by
          simp [PpuMode.at, renderLine, hv, h252', Config.ppuMode2Dots, Config.ppuMode3Dots],
          fun hp => (off rfl hp).elim, GPpu.length_selectSprites _ _ _,
          fun i hi => GPpu.lt_of_mem_selectSprites hi,
          h.framebuffer.setRow hv (GPpu.length_renderRow _ _ _ _ _), h.frontBuffer⟩
      · have h252' : p.dot + 1 ≠ 252 := h252
        rw [if_neg h252]
        unfold GPpu.dotLineEnd
        dsimp only
        by_cases h456 : p.dot + 1 = Config.ppuDots
        · rw [if_pos h456]
          refine enterLine hnext hon rfl (fun hlt => ?_) h.sprites h.spriteIndex h.framebuffer h.frontBuffer
          have e : Config.ppuVisible = 144 := rfl
          split at hlt <;> omega
        · have h456' : p.dot + 1 ≠ 456 := h456
          rw [if_neg h456]
          refine ⟨h.ly, by simp only [Config.ppuDots]; omega, fun _ => ?_, fun hp => (off rfl hp).elim,
            h.sprites, h.spriteIndex, h.framebuffer, h.frontBuffer⟩
          exact hmode.trans (PpuMode.at_succ h80' h252').symm
  · have hv' : ¬ p.ly.toNat < 144 := hv
    have hvb : p.mode = .vblank := by rw [hmode]; simp [PpuMode.at, hv]
    rw [if_neg hv]
    unfold GPpu.dotLineEnd
    dsimp only
    by_cases h456 : p.dot + 1 = Config.ppuDots
    · rw [if_pos h456]
      exact enterLine hnext hon rfl (fun _ => hvb) h.sprites h.spriteIndex h.framebuffer h.frontBuffer
    · have h456' : p.dot + 1 ≠ 456 := h456
      rw [if_neg h456]
      exact ⟨h.ly, by simp only [Config.ppuDots]; omega, fun _ => by simp [hvb, PpuMode.at, hv],
        fun hp => (off rfl hp).elim, h.sprites, h.spriteIndex, h.framebuffer, h.frontBuffer⟩

/-- Any number of dots keep the invariant (R576). -/
theorem advance {p : GPpu} (vram oam : Memory) (c : Nat) (q : GIrq) (h : p.Inv) :
    (p.advance vram oam c q).1.Inv := by
  unfold GPpu.advance
  split
  · rename_i hon
    suffices hx : ∀ x : GPpu × GIrq, x.1.Inv → x.1.lcdOn = true →
        (repeatN (GPpu.dotTick vram oam) c x).1.Inv from hx (p, q) h hon
    induction c with
    | zero => exact fun x hi _ => hi
    | succ c ih =>
      intro x hi ho
      obtain ⟨r, q⟩ := x
      exact ih _ (dotTick vram oam hi ho) ((GPpu.dotTick_lcdOn vram oam r q).trans ho)
  · exact h

/-- A write of LCDC keeps the invariant, the LCD switched or not (R585). -/
theorem writeLcdc {p : GPpu} (v : Byte) (q : GIrq) (h : p.Inv) : (p.writeLcdc v q).1.Inv := by
  unfold GPpu.writeLcdc GPpu.lcdSwitch
  by_cases h1 : p.lcdOn = true
  · by_cases h2 : ({ p with lcdc := v } : GPpu).lcdOn = true
    · simp only [h1, h2, Bool.not_true, Bool.and_false, Bool.false_and, Bool.false_eq_true, if_false]
      exact ⟨h.ly, h.dot, fun _ => h.modeOn h1, fun hp => (by rw [h2] at hp; cases hp), h.sprites, h.spriteIndex,
        h.framebuffer, h.frontBuffer⟩
    · simp only [Bool.not_eq_true] at h2
      simp only [h1, h2, Bool.not_false, Bool.and_self, if_true]
      exact ⟨Nat.zero_lt_succ _, Nat.zero_lt_succ _, fun hp => (by
        change ({ p with lcdc := v } : GPpu).lcdOn = true at hp; rw [h2] at hp; cases hp),
        fun _ => ⟨rfl, rfl, rfl, rfl⟩, h.sprites, h.spriteIndex, h.framebuffer, h.frontBuffer⟩
  · simp only [Bool.not_eq_true] at h1
    by_cases h2 : ({ p with lcdc := v } : GPpu).lcdOn = true
    · simp only [h1, h2, Bool.not_true, Bool.not_false, Bool.and_self, Bool.false_eq_true, if_false, if_true]
      exact enterLine (by decide) h2 rfl (fun hlt => absurd hlt (by decide)) h.sprites h.spriteIndex h.framebuffer
        h.frontBuffer
    · simp only [Bool.not_eq_true] at h2
      simp only [h1, h2, Bool.not_false, Bool.and_false, Bool.false_and, Bool.false_eq_true, if_false]
      exact ⟨h.ly, h.dot, fun hp => (by rw [h2] at hp; cases hp), fun _ => h.modeOff h1, h.sprites, h.spriteIndex,
        h.framebuffer, h.frontBuffer⟩

end GPpu.Inv

/-! ## The G-stack -/

/-- The size of a region of the G-stack's writable storage (R38). -/
def GStack.regionSize (g : GStack) : GRegion → Nat
  | .vram | .wram => 0x2000
  | .oam => 160
  | .hram => 127
  | .eram => g.cart.ramSize

/-- The offsets of the decode table lie in their memories (R93). -/
def GClaim.bound : GClaim → Bool
  | .vram off | .wram off => decide (off < 0x2000)
  | .oam off => decide (off < 160)
  | .hram off => decide (off < 127)
  | _ => true

theorem ioClaim_bound_nibbles : ∀ h l : Fin 16, (ioClaim (16 * h + l)).bound = true := by decide

theorem ioClaim_bound {i : Nat} (h : i < 0x100) : (ioClaim i).bound = true := by
  have := ioClaim_bound_nibbles ⟨i / 16, by omega⟩ ⟨i % 16, by omega⟩
  rwa [show 16 * (i / 16) + i % 16 = i by omega] at this

theorem gClaim_bound (a : Word) : (gClaim a).bound = true := by
  have ha := a.isLt
  unfold gClaim
  dsimp only
  split_ifs
  · rfl
  · simp only [GClaim.bound, decide_eq_true_eq]; omega
  · rfl
  · simp only [GClaim.bound, decide_eq_true_eq]; omega
  · simp only [GClaim.bound, decide_eq_true_eq]; omega
  · simp only [GClaim.bound, decide_eq_true_eq]; omega
  · rfl
  · exact ioClaim_bound (by omega)

namespace GStack.Inv

theorem readAs {g : GStack} (h : g.Inv) (m : BusMaster) (a : Word) : (GStack.readAs m g a).2.Inv := by
  rw [GStack.readAs_after]
  exact ⟨h.vram, h.wram, h.oam, h.hram, h.eram, h.rom, h.romBanks, h.bankLo, h.dmaIndex, h.dmaActive, h.imeDelay,
    h.ovfDelay, h.ppu, h.fault, h.carry, h.count⟩

theorem read {g : GStack} (h : g.Inv) (a : Word) : (g.read a).2.Inv := h.readAs .cpu a

/-- The bytes that the bus reaches lie in their memories. -/
theorem cellOf_lt {g : GStack} {m : BusMaster} {a : Word} {r : GRegion} {o : Nat}
    (hc : g.cellOf m a = some (r, o)) : o < g.regionSize r := by
  have hclaim := gClaim_bound a
  unfold GStack.cellOf at hc
  generalize gClaim a = k at hc hclaim
  split at hc
  · split at hc
    · simp at hc
    · simp only [Option.some.injEq, Prod.mk.injEq] at hc; obtain ⟨rfl, rfl⟩ := hc; exact of_decide_eq_true hclaim
  · split at hc
    · simp at hc
    · simp only [Option.some.injEq, Prod.mk.injEq] at hc; obtain ⟨rfl, rfl⟩ := hc; exact of_decide_eq_true hclaim
  · split at hc
    · rename_i he
      simp only [GStack.eramOpen, Bool.and_eq_true, bne_iff_ne, ne_eq] at he
      simp only [Option.some.injEq, Prod.mk.injEq] at hc; obtain ⟨rfl, rfl⟩ := hc
      exact Nat.mod_lt _ (Nat.pos_of_ne_zero he.1)
    · simp at hc
  · simp only [Option.some.injEq, Prod.mk.injEq] at hc; obtain ⟨rfl, rfl⟩ := hc; exact of_decide_eq_true hclaim
  · simp only [Option.some.injEq, Prod.mk.injEq] at hc; obtain ⟨rfl, rfl⟩ := hc; exact of_decide_eq_true hclaim
  · simp at hc

theorem poke {g : GStack} (h : g.Inv) {m : BusMaster} {a : Word} {c : GCell} (hc : g.cellOf m a = some c)
    (v : Byte) : (g.poke c v).Inv := by
  obtain ⟨r, o⟩ := c
  have ho := cellOf_lt hc
  cases r
  · exact ⟨h.vram.write ho v, h.wram, h.oam, h.hram, h.eram, h.rom, h.romBanks, h.bankLo, h.dmaIndex,
      h.dmaActive, h.imeDelay, h.ovfDelay, h.ppu, h.fault, h.carry, h.count⟩
  · exact ⟨h.vram, h.wram.write ho v, h.oam, h.hram, h.eram, h.rom, h.romBanks, h.bankLo, h.dmaIndex,
      h.dmaActive, h.imeDelay, h.ovfDelay, h.ppu, h.fault, h.carry, h.count⟩
  · exact ⟨h.vram, h.wram, h.oam.write ho v, h.hram, h.eram, h.rom, h.romBanks, h.bankLo, h.dmaIndex,
      h.dmaActive, h.imeDelay, h.ovfDelay, h.ppu, h.fault, h.carry, h.count⟩
  · exact ⟨h.vram, h.wram, h.oam, h.hram.write ho v, h.eram, h.rom, h.romBanks, h.bankLo, h.dmaIndex,
      h.dmaActive, h.imeDelay, h.ovfDelay, h.ppu, h.fault, h.carry, h.count⟩
  · exact ⟨h.vram, h.wram, h.oam, h.hram, h.eram.write ho v, h.rom, h.romBanks, h.bankLo, h.dmaIndex,
      h.dmaActive, h.imeDelay, h.ovfDelay, h.ppu, h.fault, h.carry, h.count⟩

/-- A bank-select write never leaves 0 in the low bank (R122). -/
theorem mbcWrite_bankLo {g : GStack} (h : g.mbc.bankLo ≠ 0) (a : Nat) (v : Byte) :
    (g.mbcWrite a v).mbc.bankLo ≠ 0 := by
  unfold GStack.mbcWrite
  split
  · exact h
  · split_ifs
    · exact h
    · dsimp only; decide
    · rename_i h0; exact h0
    · exact h
    · exact h

theorem write {g : GStack} (h : g.Inv) (a : Word) (v : Byte) : (g.write a v).Inv := by
  have same (p : GPpu) (hp : p.Inv) (q : GIrq) (j : GJoypad) (e : List PortEvent) (mb : GMbc) (hb : mb.bankLo ≠ 0)
      (t : GTimer) (ht : t.ovfDelay ≤ Config.timerReloadDelay) :
      ({ g with ppu := p, irq := q, joy := j, apuPort := e, timer := t, mbc := mb } : GStack).Inv :=
    ⟨h.vram, h.wram, h.oam, h.hram, h.eram, h.rom, h.romBanks, hb, h.dmaIndex, h.dmaActive, h.imeDelay,
      ht, hp, h.fault, h.carry, h.count⟩
  have hp := h.ppu
  have ppu (p : GPpu) (e1 : p.ly = g.ppu.ly) (e2 : p.dot = g.ppu.dot) (e3 : p.mode = g.ppu.mode)
      (e4 : p.lcdc = g.ppu.lcdc) (e5 : p.winLine = g.ppu.winLine) (e6 : p.lineSprites = g.ppu.lineSprites)
      (e7 : p.framebuffer = g.ppu.framebuffer) (e8 : p.frontBuffer = g.ppu.frontBuffer) : p.Inv := by
    refine ⟨e1 ▸ hp.ly, e2 ▸ hp.dot, fun ho => ?_, fun ho => ?_, e6 ▸ hp.sprites, e6 ▸ hp.spriteIndex,
      e7 ▸ hp.framebuffer, e8 ▸ hp.frontBuffer⟩
    · rw [e1, e2, e3]; exact hp.modeOn (by simpa only [GPpu.lcdOn, e4] using ho)
    · rw [e1, e2, e3, e5]; exact hp.modeOff (by simpa only [GPpu.lcdOn, e4] using ho)
  unfold GStack.write
  split
  · rename_i c hc
    exact h.poke hc v
  · unfold GStack.writeRegister
    split
    case h_1 =>
      rw [GStack.mbcWrite_after]
      exact same _ hp _ _ _ _ (mbcWrite_bankLo h.bankLo _ _) _ h.ovfDelay
    case h_9 => exact same _ (hp.writeLcdc v _) _ _ _ _ h.bankLo _ h.ovfDelay
    case h_14 =>
      exact ⟨h.vram, h.wram, h.oam, h.hram, h.eram, h.rom, h.romBanks, h.bankLo, Nat.zero_le _,
        fun _ => Nat.zero_lt_succ _, h.imeDelay, h.ovfDelay, h.ppu, h.fault, h.carry, h.count⟩
    all_goals first
      | exact h
      | exact same _ (by exact ppu _ rfl rfl rfl rfl rfl rfl rfl rfl) _ _ _ _ h.bankLo _ h.ovfDelay
      | exact same _ hp _ _ _ _ h.bankLo _ (by exact Nat.zero_le _)

end GStack.Inv

end Sys2Proof.Machine
end

