-- ==== Sys2Proof/Laws/Halt.lean ====
section
/-! SUPPORT. When a self-jump with interrupts unable to fire (spec/70_reset_and_hazards.md R680) is seen from one
state: the jump stands in memory that only a store changes, and no interrupt is enabled. Such a state `spins`. -/

namespace Sys2Proof.Machine

/-- What holds of a state, and is kept by every step and every button press, holds of all that the session
reaches. -/
theorem State.GoesOnTo.keeps {P : State → Prop} {s t : State} (h : s.GoesOnTo t) (hs : P s)
    (hstep : ∀ a b, P a → Machine.step a = .next b → P b) (hb : ∀ a second b, P a → P (a.setButtons second b)) : P t := by
  induction h with
  | here => exact hs
  | step _ e ih => exact hstep _ _ ih e
  | buttons second b _ ih => exact hb _ second b ih

/-- What the session reaches from a state it reaches. -/
theorem State.GoesOnTo.trans {s t u : State} (h : s.GoesOnTo t) (h' : t.GoesOnTo u) : s.GoesOnTo u :=
  h'.keeps h (fun _ _ ha e => ha.step e) fun _ second b ha => ha.buttons second b

/-- A session that spins goes on spinning. -/
theorem State.spins.after {s t : State} (h : s.spins) (h' : s.GoesOnTo t) : t.spins := fun _ hu => h _ (h'.trans hu)

/-- A session with `P` spins, where `P` implies a self-jump that runs and is kept. -/
theorem State.spins_of {P : State → Prop} {s : State} (hs : P s)
    (here : ∀ a, P a → a.faulted = false ∧ a.awake = true ∧ a.interruptDue = false ∧ a.selfJump)
    (hstep : ∀ a b, P a → Machine.step a = .next b → P b) (hb : ∀ a second b, P a → P (a.setButtons second b)) :
    s.spins := fun t h => here t (h.keeps hs hstep hb)

/-! ## Nothing but a store changes `IE` -/

@[simp] theorem GIrq.request_ieReg (q : GIrq) (b : IrqBit) : (q.request b).ieReg = q.ieReg := rfl
@[simp] theorem GIrq.requestIf_ieReg (q : GIrq) (c : Bool) (b : IrqBit) : (q.requestIf c b).ieReg = q.ieReg := by
  unfold GIrq.requestIf; split <;> rfl

@[simp] theorem GTimer.advance_ieReg (c : Nat) (t : GTimer) (q : GIrq) : (t.advance c q).2.ieReg = q.ieReg :=
  repeatN_keeps (P := fun p : GTimer × GIrq => p.2.ieReg = q.ieReg)
    (fun p hp => by rw [← hp]; unfold GTimer.tick GTimer.tickDelay; split_ifs <;> rfl) c rfl

@[simp] theorem GPpu.enterLine_ieReg (n : Nat) (p : GPpu) (q : GIrq) : (GPpu.enterLine n p q).2.ieReg = q.ieReg := by
  unfold GPpu.enterLine
  dsimp only
  repeat' split
  all_goals simp

@[simp] theorem GPpu.dotTick_ieReg (vram oam : Memory) (s : GPpu × GIrq) : (GPpu.dotTick vram oam s).2.ieReg = s.2.ieReg := by
  unfold GPpu.dotTick GPpu.dotModes GPpu.dotLineEnd
  dsimp only
  repeat' split
  all_goals simp

@[simp] theorem GPpu.advance_ieReg (vram oam : Memory) (c : Nat) (p : GPpu) (q : GIrq) :
    (p.advance vram oam c q).2.ieReg = q.ieReg := by
  unfold GPpu.advance
  split
  · exact repeatN_keeps (P := fun s : GPpu × GIrq => s.2.ieReg = q.ieReg)
      (fun s hs => (GPpu.dotTick_ieReg vram oam s).trans hs) c rfl
  · rfl

/-! ## The N-stack -/

/-- A byte of the N-stack that only a store changes: storage or program ROM. -/
def NStack.code (n : NStack) (a : Word) : Option Byte :=
  match nClaim a with
  | .ram off => some (n.ram.read off)
  | .prgRam off => some (n.prgRam.read off)
  | .mapper off => some (n.cart.prgRom.read (n.cart.romOffset n.prgBank off))
  | .ppuPort _ | .dmaTrigger | .joypad1 | .joypad2 | .unclaimed => none

/-- A byte of code is what the bus answers, and reading it changes nothing. -/
theorem NStack.read_of_code {n : NStack} {a : Word} {b : Byte} (h : n.code a = some b) : n.read a = (b, n) := by
  unfold NStack.code at h
  unfold NStack.read NStack.cellOf NStack.readRegister
  split at h <;> simp_all [NStack.peek]

/-- `JMP *` stands at `PC` (R269), in such bytes. -/
def NStack.jumpsToItself (n : NStack) : Prop :=
  n.code n.cpu.pc = some 0x4C ∧ n.code (n.cpu.pc + 1) = some (loByte n.cpu.pc) ∧
    n.code (n.cpu.pc + 2) = some (hiByte n.cpu.pc)

/-- The fetch of a self-jump answers the jump to where it stands and changes nothing. -/
theorem NStack.jumpsToItself.fetch {n : NStack} (h : n.jumpsToItself) : n.fetch = (.jmp (.abs n.cpu.pc), n) := by
  have h2 : decide (2 ≤ (m6502Row 0x4C).len) = true := by decide
  have h3 : decide (3 ≤ (m6502Row 0x4C).len) = true := by decide
  have hd (lo hi : Byte) : decodeM6502 0x4C lo hi = .jmp (.abs (join hi lo)) := rfl
  simp only [NStack.fetch, NStack.fetchIf, NStack.read_of_code h.1, NStack.read_of_code h.2.1,
    NStack.read_of_code h.2.2, h2, h3, if_true, hd, join_hiByte_loByte]

/-- No interrupt can fire while the program jumps to itself, 3 cycles a turn: none is latched, the IRQ line is low
or masked, and the external picture unit raises no NMI in any of those turns, however many. -/
def NStack.quiet (n : NStack) : Prop :=
  n.cpu.nmiPending = false ∧ (n.cpu.irqLine && !n.cpu.p.i) = false ∧
    ∀ turns : Nat, Config.ppuPortNmi (List.replicate (turns + 1) (.advance 3) ++ n.ppuPort) = false

/-- An N-stack session at such a self-jump with no transfer running. -/
structure State.NSpinning (s : State) : Prop where
  stack : s.stack = .nStack
  faulted : s.n.cpu.faulted = false
  dma : s.n.dma.active = false
  jump : s.n.jumpsToItself
  quiet : s.n.quiet

namespace State.NSpinning

theorem cpuStep {s : State} (h : s.NSpinning) :
    Machine.cpuStep s = .next { s with n := { s.n with cycles := 3 } } := by
  obtain ⟨st, n, g⟩ := s
  obtain ⟨rfl, hf, hd, hj, hq1, hq2, -⟩ := h
  dsimp only at hf hd hj hq1 hq2
  simp only [Machine.cpuStep, State.stepHead, NStack.stepHead, hf, hq1, hq2, hd, Bool.false_eq_true, if_false,
    State.fetch, hj.fetch]
  rfl

theorem step {s t : State} (h : s.NSpinning) (e : Machine.step s = .next t) : t.NSpinning := by
  rw [Machine.step, h.cpuStep] at e
  obtain rfl := Host.Outcome.next.inj e
  obtain ⟨st, n, g⟩ := s
  obtain ⟨rfl, hf, hd, hj, hq1, hq2, hq3⟩ := h
  dsimp only at hf hd hj hq1 hq2 hq3
  have h0 : Config.ppuPortNmi (.advance 3 :: n.ppuPort) = false := hq3 0
  have hfin : State.finishStep ⟨.nStack, { n with cycles := 3 }, g⟩ =
      ⟨.nStack, { n with
        cpu := { n.cpu with nmiPending := n.cpu.nmiPending || Config.ppuPortNmi (.advance 3 :: n.ppuPort) }
        ppuPort := .advance 3 :: n.ppuPort, frame := n.frame.add (Config.frameBudget .nStack) 3, cycles := 3 }, g⟩ := by
    unfold State.finishStep NStack.finishStep
    dsimp only
    rw [if_neg (by rw [hf]; decide)]
    rfl
  rw [hfin]
  refine ⟨rfl, hf, hd, hj, by simp only [hq1, h0, Bool.or_false], hq2, fun k => ?_⟩
  have := hq3 (k + 1)
  rw [List.replicate_succ', List.append_assoc] at this
  exact this

/-- Such a session spins (R680). -/
theorem spins {s : State} (h : s.NSpinning) : s.spins := by
  refine State.spins_of h (fun a ha => ?_) (fun a b ha e => ha.step e) (fun a second b ha => ?_)
  · obtain ⟨st, n, g⟩ := a
    obtain ⟨rfl, hf, hd, hj, hq1, hq2, -⟩ := ha
    dsimp only at hf hd hj hq1 hq2
    refine ⟨hf, rfl, by simp only [State.interruptDue, hq1, hq2, Bool.or_false], ⟨.nStack, { n with cycles := 3 }, g⟩, ?_, rfl⟩
    simp only [State.fetch, hj.fetch]
    rfl
  · obtain ⟨st, n, g⟩ := a
    obtain ⟨rfl, hf, hd, hj, hq⟩ := ha
    cases second <;> exact ⟨rfl, hf, hd, hj, hq⟩

end State.NSpinning

/-! ## The G-stack -/

/-- A byte of the G-stack that only a store changes: ROM, open cartridge RAM, work RAM, high RAM. -/
def GStack.code (g : GStack) (a : Word) : Option Byte :=
  match gClaim a with
  | .rom k => some (g.cart.rom.read (g.romOffset k))
  | .eram off => if g.eramOpen then some (g.mem.eram.read (g.eramOffset off)) else none
  | .wram off => some (g.mem.wram.read off)
  | .hram off => some (g.mem.hram.read off)
  | _ => none

/-- A byte of code is what the bus answers, and reading it changes nothing. -/
theorem GStack.read_of_code {g : GStack} {a : Word} {b : Byte} (h : g.code a = some b) : g.read a = (b, g) := by
  unfold GStack.code at h
  unfold GStack.read GStack.readAs GStack.cellOf GStack.readRegister
  split at h <;> simp_all [GStack.peek]

/-- `JR -2` (R435), or the `JP` to its own address (R432), stands at `PC`, in such bytes. -/
def GStack.jumpsToItself (g : GStack) : Prop :=
  (g.code g.cpu.pc = some 0x18 ∧ g.code (g.cpu.pc + 1) = some 0xFE) ∨
    (g.code g.cpu.pc = some 0xC3 ∧ g.code (g.cpu.pc + 1) = some (loByte g.cpu.pc) ∧
      g.code (g.cpu.pc + 2) = some (hiByte g.cpu.pc))

/-- The fetch of a self-jump answers one of its two forms and changes nothing. -/
theorem GStack.jumpsToItself.fetch {g : GStack} (h : g.jumpsToItself) :
    g.fetch = (.jr_r8 0xFE, g) ∨ g.fetch = (.jp_a16 g.cpu.pc, g) := by
  obtain h | h := h
  · have h2 : decide (2 ≤ (sm83Row 0x18).len) = true := by decide
    have h3 : decide (3 ≤ (sm83Row 0x18).len) = false := by decide
    have hd (lo hi : Byte) : decodeSm83 0x18 lo hi = .jr_r8 lo := rfl
    left
    simp only [GStack.fetch, GStack.fetchIf, GStack.read_of_code h.1, GStack.read_of_code h.2, h2, h3, if_true, hd]
    rfl
  · have h2 : decide (2 ≤ (sm83Row 0xC3).len) = true := by decide
    have h3 : decide (3 ≤ (sm83Row 0xC3).len) = true := by decide
    have hd (lo hi : Byte) : decodeSm83 0xC3 lo hi = .jp_a16 (join hi lo) := rfl
    right
    simp only [GStack.fetch, GStack.fetchIf, GStack.read_of_code h.1, GStack.read_of_code h.2.1,
      GStack.read_of_code h.2.2, h2, h3, if_true, hd, join_hiByte_loByte]

/-- A G-stack session at such a self-jump, awake, with no transfer running, and with no interrupt enabled or `IME`
clear and no EI on its way to set it. -/
structure State.GSpinning (s : State) : Prop where
  stack : s.stack = .gStack
  faulted : s.g.cpu.faulted = false
  halted : s.g.cpu.halted = false
  stopped : s.g.cpu.stopped = false
  dma : s.g.dma.active = false
  jump : s.g.jumpsToItself
  quiet : s.g.irq.ieReg = 0 ∨ (s.g.cpu.ime = false ∧ s.g.cpu.imeDelay = 0)

namespace State.GSpinning

theorem interruptDue {s : State} (h : s.GSpinning) : (s.g.cpu.ime && s.g.irq.pending != 0) = false := by
  rcases h.quiet with e | e
  · simp [GIrq.pending, e]
  · simp [e]

/-- The self-jump executed. -/
theorem exec {s : State} (h : s.GSpinning) : ∃ c, Machine.exec s.fetch.1 s.fetch.2 =
    .next { s with g := { s.g with
      cpu := { s.g.cpu with
        ime := s.g.cpu.ime || decide (s.g.cpu.imeDelay = 1), imeDelay := s.g.cpu.imeDelay - 1 }
      cycles := c } } := by
  obtain ⟨st, n, g⟩ := s
  obtain rfl : st = _ := h.stack
  have hj : g.jumpsToItself := h.jump
  have back : g.cpu.pc + 2 + 0xFFFE = g.cpu.pc := by rw [BitVec.add_assoc]; exact BitVec.add_zero _
  rcases hj.fetch with e | e
  · refine ⟨12, ?_⟩
    have hjr : ((g.start 2 12).jump ((g.start 2 12).cpu.pc + sext16 0xFE)) = { g with cycles := 12 } := by
      show { g with cpu := { g.cpu with pc := g.cpu.pc + 2 + 0xFFFE }, cycles := 12 } = _
      rw [back]
    simp only [State.fetch, e]
    show Host.Outcome.next (⟨.gStack, n, ((g.start 2 12).jump ((g.start 2 12).cpu.pc + sext16 0xFE)).tickIme⟩ : State) = _
    rw [GStack.tickIme_eq, hjr]
  · refine ⟨16, ?_⟩
    simp only [State.fetch, e]
    show Host.Outcome.next (⟨.gStack, n, ((g.start 3 16).jump g.cpu.pc).tickIme⟩ : State) = _
    rw [GStack.tickIme_eq]
    rfl

theorem cpuStep {s : State} (h : s.GSpinning) : Machine.cpuStep s = Machine.exec s.fetch.1 s.fetch.2 := by
  have hd := h.interruptDue
  obtain ⟨st, n, g⟩ := s
  obtain ⟨rfl, hf, hh, hs, hdma, hj, -⟩ := h
  dsimp only at hf hh hs hdma hj hd
  have awake : g.releaseHalt.releaseStop = g := by
    show { g with cpu := { g.cpu with halted := false, stopped := false } } = g
    conv_rhs => rw [show g = { g with cpu := { g.cpu with halted := g.cpu.halted, stopped := g.cpu.stopped } } from rfl,
      hh, hs]
  simp only [Machine.cpuStep, State.stepHead, GStack.stepHead, hf, hd, hh, hs, hdma, Bool.false_and,
    Bool.false_eq_true, if_false, awake]

theorem step {s t : State} (h : s.GSpinning) (e : Machine.step s = .next t) : t.GSpinning := by
  obtain ⟨c, he⟩ := h.exec
  rw [Machine.step, h.cpuStep, he] at e
  obtain rfl := Host.Outcome.next.inj e
  obtain ⟨st, n, g⟩ := s
  obtain ⟨rfl, hf, hh, hs, hdma, hj, hq⟩ := h
  dsimp only at hf hh hs hdma hj hq
  unfold State.finishStep GStack.finishStep GStack.advance
  dsimp only
  rw [if_neg (by rw [hf]; decide)]
  refine ⟨rfl, hf, hh, hs, hdma, hj, ?_⟩
  rcases hq with hq | ⟨hi, hd⟩
  · left
    dsimp only [GStack.portEvent]
    rw [GPpu.advance_ieReg, GTimer.advance_ieReg, hq]
  · right
    exact ⟨by show (g.cpu.ime || decide (g.cpu.imeDelay = 1)) = false; simp [hi, hd],
      by show g.cpu.imeDelay - 1 = 0; omega⟩

/-- Such a session spins (R680). -/
theorem spins {s : State} (h : s.GSpinning) : s.spins := by
  refine State.spins_of h (fun a ha => ?_) (fun a b ha e => ha.step e) (fun a second b ha => ?_)
  · obtain ⟨c, he⟩ := ha.exec
    have hd := ha.interruptDue
    obtain ⟨st, n, g⟩ := a
    obtain ⟨rfl, hf, hh, hs, -, -, -⟩ := ha
    dsimp only at hf hh hs hd
    exact ⟨hf, by simp only [State.awake, hh, hs]; rfl, hd, _, he, rfl⟩
  · obtain ⟨st, n, g⟩ := a
    obtain ⟨rfl, hf, hh, hs, hdma, hj, hq⟩ := ha
    refine ⟨rfl, hf, hh, hs, hdma, hj, ?_⟩
    show (g.setButtons b).irq.ieReg = 0 ∨ _
    rw [show (g.setButtons b).irq.ieReg = g.irq.ieReg from GIrq.requestIf_ieReg ..]
    exact hq

end State.GSpinning

end Sys2Proof.Machine
end

