-- ==== Sys2Proof/Laws/PerInstr.lean ====
section
/-! SUPPORT. Statements made per instruction. `EncodeLength`: an instruction is one to three bytes long
(spec/30_encoding.md R140). -/

namespace Sys2Proof.Laws.EncodeLength

/-- The encoding of a well-formed instruction is one to three bytes long. -/
def Statement (i : Instr) : Prop := WellFormed i = true → 1 ≤ (encode i).length ∧ (encode i).length ≤ 3

/-- From the exact length. -/
theorem of_length {i : Instr} (k : Nat) (h : (encode i).length = k + 1) (hk : k ≤ 2) : Statement i := fun _ => by
  omega

/-- An operand whose mode has an opcode is encoded in two or three bytes. -/
theorem encodeMode_length (ops : List (Mode × Byte)) (o : Operand) (h : (ops.lookup o.mode).isSome = true) :
    1 ≤ (encodeMode ops o).length ∧ (encodeMode ops o).length ≤ 3 := by
  unfold encodeMode
  cases hl : ops.lookup o.mode with
  | none => simp [hl] at h
  | some b => cases o <;> simp [Operand.bytes, wordBytes]

theorem lda (o : Operand) : Statement (.lda o) := fun h =>
  encodeMode_length ldaOps o (by cases o <;> first | rfl | exact absurd h Bool.false_ne_true)
theorem ldx (o : Operand) : Statement (.ldx o) := fun h =>
  encodeMode_length ldxOps o (by cases o <;> first | rfl | exact absurd h Bool.false_ne_true)
theorem ldy (o : Operand) : Statement (.ldy o) := fun h =>
  encodeMode_length ldyOps o (by cases o <;> first | rfl | exact absurd h Bool.false_ne_true)
theorem sta (o : Operand) : Statement (.sta o) := fun h =>
  encodeMode_length staOps o (by cases o <;> first | rfl | exact absurd h Bool.false_ne_true)
theorem stx (o : Operand) : Statement (.stx o) := fun h =>
  encodeMode_length stxOps o (by cases o <;> first | rfl | exact absurd h Bool.false_ne_true)
theorem sty (o : Operand) : Statement (.sty o) := fun h =>
  encodeMode_length styOps o (by cases o <;> first | rfl | exact absurd h Bool.false_ne_true)
theorem adc (o : Operand) : Statement (.adc o) := fun h =>
  encodeMode_length adcOps o (by cases o <;> first | rfl | exact absurd h Bool.false_ne_true)
theorem sbc (o : Operand) : Statement (.sbc o) := fun h =>
  encodeMode_length sbcOps o (by cases o <;> first | rfl | exact absurd h Bool.false_ne_true)
theorem and (o : Operand) : Statement (.and o) := fun h =>
  encodeMode_length andOps o (by cases o <;> first | rfl | exact absurd h Bool.false_ne_true)
theorem ora (o : Operand) : Statement (.ora o) := fun h =>
  encodeMode_length oraOps o (by cases o <;> first | rfl | exact absurd h Bool.false_ne_true)
theorem eor (o : Operand) : Statement (.eor o) := fun h =>
  encodeMode_length eorOps o (by cases o <;> first | rfl | exact absurd h Bool.false_ne_true)
theorem cmp (o : Operand) : Statement (.cmp o) := fun h =>
  encodeMode_length cmpOps o (by cases o <;> first | rfl | exact absurd h Bool.false_ne_true)
theorem cpx (o : Operand) : Statement (.cpx o) := fun h =>
  encodeMode_length cpxOps o (by cases o <;> first | rfl | exact absurd h Bool.false_ne_true)
theorem cpy (o : Operand) : Statement (.cpy o) := fun h =>
  encodeMode_length cpyOps o (by cases o <;> first | rfl | exact absurd h Bool.false_ne_true)
theorem bit (o : Operand) : Statement (.bit o) := fun h =>
  encodeMode_length bitOps o (by cases o <;> first | rfl | exact absurd h Bool.false_ne_true)
theorem inc (o : Operand) : Statement (.inc o) := fun h =>
  encodeMode_length incOps o (by cases o <;> first | rfl | exact absurd h Bool.false_ne_true)
theorem dec (o : Operand) : Statement (.dec o) := fun h =>
  encodeMode_length decOps o (by cases o <;> first | rfl | exact absurd h Bool.false_ne_true)
theorem asl (o : ShiftOperand) : Statement (.asl o) := fun h =>
  match o with
  | .acc => of_length 0 rfl (by decide) h
  | .mem o => encodeMode_length aslOps o (by cases o <;> first | rfl | exact absurd h Bool.false_ne_true)
theorem lsr (o : ShiftOperand) : Statement (.lsr o) := fun h =>
  match o with
  | .acc => of_length 0 rfl (by decide) h
  | .mem o => encodeMode_length lsrOps o (by cases o <;> first | rfl | exact absurd h Bool.false_ne_true)
theorem rol (o : ShiftOperand) : Statement (.rol o) := fun h =>
  match o with
  | .acc => of_length 0 rfl (by decide) h
  | .mem o => encodeMode_length rolOps o (by cases o <;> first | rfl | exact absurd h Bool.false_ne_true)
theorem ror (o : ShiftOperand) : Statement (.ror o) := fun h =>
  match o with
  | .acc => of_length 0 rfl (by decide) h
  | .mem o => encodeMode_length rorOps o (by cases o <;> first | rfl | exact absurd h Bool.false_ne_true)
theorem bcc (rel8 : Byte) : Statement (.bcc rel8) := of_length 1 rfl (by decide)
theorem bcs (rel8 : Byte) : Statement (.bcs rel8) := of_length 1 rfl (by decide)
theorem beq (rel8 : Byte) : Statement (.beq rel8) := of_length 1 rfl (by decide)
theorem bne (rel8 : Byte) : Statement (.bne rel8) := of_length 1 rfl (by decide)
theorem bmi (rel8 : Byte) : Statement (.bmi rel8) := of_length 1 rfl (by decide)
theorem bpl (rel8 : Byte) : Statement (.bpl rel8) := of_length 1 rfl (by decide)
theorem bvc (rel8 : Byte) : Statement (.bvc rel8) := of_length 1 rfl (by decide)
theorem bvs (rel8 : Byte) : Statement (.bvs rel8) := of_length 1 rfl (by decide)
theorem jmp (o : JumpOperand) : Statement (.jmp o) :=
  match o with
  | .abs _ => of_length 2 rfl (by decide)
  | .ind _ => of_length 2 rfl (by decide)
theorem jsr (a16 : Word) : Statement (.jsr a16) := of_length 2 rfl (by decide)
theorem ill (op : Byte) : Statement (.ill op) := of_length 0 rfl (by decide)
theorem ld_BC_d16 (d16 : Word) : Statement (.ld_BC_d16 d16) := of_length 2 rfl (by decide)
theorem ld_B_d8 (d8 : Byte) : Statement (.ld_B_d8 d8) := of_length 1 rfl (by decide)
theorem ld_ma16_SP (a16 : Word) : Statement (.ld_ma16_SP a16) := of_length 2 rfl (by decide)
theorem ld_C_d8 (d8 : Byte) : Statement (.ld_C_d8 d8) := of_length 1 rfl (by decide)
theorem stop (pad : Byte) : Statement (.stop pad) := of_length 1 rfl (by decide)
theorem ld_DE_d16 (d16 : Word) : Statement (.ld_DE_d16 d16) := of_length 2 rfl (by decide)
theorem ld_D_d8 (d8 : Byte) : Statement (.ld_D_d8 d8) := of_length 1 rfl (by decide)
theorem jr_r8 (r8 : Byte) : Statement (.jr_r8 r8) := of_length 1 rfl (by decide)
theorem ld_E_d8 (d8 : Byte) : Statement (.ld_E_d8 d8) := of_length 1 rfl (by decide)
theorem jr_NZ_r8 (r8 : Byte) : Statement (.jr_NZ_r8 r8) := of_length 1 rfl (by decide)
theorem ld_HL_d16 (d16 : Word) : Statement (.ld_HL_d16 d16) := of_length 2 rfl (by decide)
theorem ld_H_d8 (d8 : Byte) : Statement (.ld_H_d8 d8) := of_length 1 rfl (by decide)
theorem jr_Z_r8 (r8 : Byte) : Statement (.jr_Z_r8 r8) := of_length 1 rfl (by decide)
theorem ld_L_d8 (d8 : Byte) : Statement (.ld_L_d8 d8) := of_length 1 rfl (by decide)
theorem jr_NC_r8 (r8 : Byte) : Statement (.jr_NC_r8 r8) := of_length 1 rfl (by decide)
theorem ld_SP_d16 (d16 : Word) : Statement (.ld_SP_d16 d16) := of_length 2 rfl (by decide)
theorem ld_mHL_d8 (d8 : Byte) : Statement (.ld_mHL_d8 d8) := of_length 1 rfl (by decide)
theorem jr_C_r8 (r8 : Byte) : Statement (.jr_C_r8 r8) := of_length 1 rfl (by decide)
theorem ld_A_d8 (d8 : Byte) : Statement (.ld_A_d8 d8) := of_length 1 rfl (by decide)
theorem jp_NZ_a16 (a16 : Word) : Statement (.jp_NZ_a16 a16) := of_length 2 rfl (by decide)
theorem jp_a16 (a16 : Word) : Statement (.jp_a16 a16) := of_length 2 rfl (by decide)
theorem call_NZ_a16 (a16 : Word) : Statement (.call_NZ_a16 a16) := of_length 2 rfl (by decide)
theorem add_A_d8 (d8 : Byte) : Statement (.add_A_d8 d8) := of_length 1 rfl (by decide)
theorem jp_Z_a16 (a16 : Word) : Statement (.jp_Z_a16 a16) := of_length 2 rfl (by decide)
theorem prefixCB (cbop : Byte) : Statement (.prefixCB cbop) := fun h => absurd h Bool.false_ne_true
theorem call_Z_a16 (a16 : Word) : Statement (.call_Z_a16 a16) := of_length 2 rfl (by decide)
theorem call_a16 (a16 : Word) : Statement (.call_a16 a16) := of_length 2 rfl (by decide)
theorem adc_A_d8 (d8 : Byte) : Statement (.adc_A_d8 d8) := of_length 1 rfl (by decide)
theorem jp_NC_a16 (a16 : Word) : Statement (.jp_NC_a16 a16) := of_length 2 rfl (by decide)
theorem call_NC_a16 (a16 : Word) : Statement (.call_NC_a16 a16) := of_length 2 rfl (by decide)
theorem sub_d8 (d8 : Byte) : Statement (.sub_d8 d8) := of_length 1 rfl (by decide)
theorem jp_C_a16 (a16 : Word) : Statement (.jp_C_a16 a16) := of_length 2 rfl (by decide)
theorem call_C_a16 (a16 : Word) : Statement (.call_C_a16 a16) := of_length 2 rfl (by decide)
theorem sbc_A_d8 (d8 : Byte) : Statement (.sbc_A_d8 d8) := of_length 1 rfl (by decide)
theorem ldh_ma8_A (a8 : Byte) : Statement (.ldh_ma8_A a8) := of_length 1 rfl (by decide)
theorem and_d8 (d8 : Byte) : Statement (.and_d8 d8) := of_length 1 rfl (by decide)
theorem add_SP_r8 (r8 : Byte) : Statement (.add_SP_r8 r8) := of_length 1 rfl (by decide)
theorem ld_ma16_A (a16 : Word) : Statement (.ld_ma16_A a16) := of_length 2 rfl (by decide)
theorem xor_d8 (d8 : Byte) : Statement (.xor_d8 d8) := of_length 1 rfl (by decide)
theorem ldh_A_ma8 (a8 : Byte) : Statement (.ldh_A_ma8 a8) := of_length 1 rfl (by decide)
theorem or_d8 (d8 : Byte) : Statement (.or_d8 d8) := of_length 1 rfl (by decide)
theorem ld_HL_SPr8 (r8 : Byte) : Statement (.ld_HL_SPr8 r8) := of_length 1 rfl (by decide)
theorem ld_A_ma16 (a16 : Word) : Statement (.ld_A_ma16 a16) := of_length 2 rfl (by decide)
theorem cp_d8 (d8 : Byte) : Statement (.cp_d8 d8) := of_length 1 rfl (by decide)
theorem tax : Statement .tax := of_length 0 rfl (by decide)
theorem tay : Statement .tay := of_length 0 rfl (by decide)
theorem txa : Statement .txa := of_length 0 rfl (by decide)
theorem tya : Statement .tya := of_length 0 rfl (by decide)
theorem tsx : Statement .tsx := of_length 0 rfl (by decide)
theorem txs : Statement .txs := of_length 0 rfl (by decide)
theorem pha : Statement .pha := of_length 0 rfl (by decide)
theorem php : Statement .php := of_length 0 rfl (by decide)
theorem pla : Statement .pla := of_length 0 rfl (by decide)
theorem plp : Statement .plp := of_length 0 rfl (by decide)
theorem inx : Statement .inx := of_length 0 rfl (by decide)
theorem iny : Statement .iny := of_length 0 rfl (by decide)
theorem dex : Statement .dex := of_length 0 rfl (by decide)
theorem dey : Statement .dey := of_length 0 rfl (by decide)
theorem rts : Statement .rts := of_length 0 rfl (by decide)
theorem rti : Statement .rti := of_length 0 rfl (by decide)
theorem brk : Statement .brk := of_length 0 rfl (by decide)
theorem clc : Statement .clc := of_length 0 rfl (by decide)
theorem sec : Statement .sec := of_length 0 rfl (by decide)
theorem cli : Statement .cli := of_length 0 rfl (by decide)
theorem sei : Statement .sei := of_length 0 rfl (by decide)
theorem cld : Statement .cld := of_length 0 rfl (by decide)
theorem sed : Statement .sed := of_length 0 rfl (by decide)
theorem clv : Statement .clv := of_length 0 rfl (by decide)
theorem nop_6502 : Statement .nop_6502 := of_length 0 rfl (by decide)
theorem nop_sm83 : Statement .nop_sm83 := of_length 0 rfl (by decide)
theorem ld_mBC_A : Statement .ld_mBC_A := of_length 0 rfl (by decide)
theorem inc_BC : Statement .inc_BC := of_length 0 rfl (by decide)
theorem inc_B : Statement .inc_B := of_length 0 rfl (by decide)
theorem dec_B : Statement .dec_B := of_length 0 rfl (by decide)
theorem rlca : Statement .rlca := of_length 0 rfl (by decide)
theorem add_HL_BC : Statement .add_HL_BC := of_length 0 rfl (by decide)
theorem ld_A_mBC : Statement .ld_A_mBC := of_length 0 rfl (by decide)
theorem dec_BC : Statement .dec_BC := of_length 0 rfl (by decide)
theorem inc_C : Statement .inc_C := of_length 0 rfl (by decide)
theorem dec_C : Statement .dec_C := of_length 0 rfl (by decide)
theorem rrca : Statement .rrca := of_length 0 rfl (by decide)
theorem ld_mDE_A : Statement .ld_mDE_A := of_length 0 rfl (by decide)
theorem inc_DE : Statement .inc_DE := of_length 0 rfl (by decide)
theorem inc_D : Statement .inc_D := of_length 0 rfl (by decide)
theorem dec_D : Statement .dec_D := of_length 0 rfl (by decide)
theorem rla : Statement .rla := of_length 0 rfl (by decide)
theorem add_HL_DE : Statement .add_HL_DE := of_length 0 rfl (by decide)
theorem ld_A_mDE : Statement .ld_A_mDE := of_length 0 rfl (by decide)
theorem dec_DE : Statement .dec_DE := of_length 0 rfl (by decide)
theorem inc_E : Statement .inc_E := of_length 0 rfl (by decide)
theorem dec_E : Statement .dec_E := of_length 0 rfl (by decide)
theorem rra : Statement .rra := of_length 0 rfl (by decide)
theorem ld_mHLinc_A : Statement .ld_mHLinc_A := of_length 0 rfl (by decide)
theorem inc_HL : Statement .inc_HL := of_length 0 rfl (by decide)
theorem inc_H : Statement .inc_H := of_length 0 rfl (by decide)
theorem dec_H : Statement .dec_H := of_length 0 rfl (by decide)
theorem daa : Statement .daa := of_length 0 rfl (by decide)
theorem add_HL_HL : Statement .add_HL_HL := of_length 0 rfl (by decide)
theorem ld_A_mHLinc : Statement .ld_A_mHLinc := of_length 0 rfl (by decide)
theorem dec_HL : Statement .dec_HL := of_length 0 rfl (by decide)
theorem inc_L : Statement .inc_L := of_length 0 rfl (by decide)
theorem dec_L : Statement .dec_L := of_length 0 rfl (by decide)
theorem cpl : Statement .cpl := of_length 0 rfl (by decide)
theorem ld_mHLdec_A : Statement .ld_mHLdec_A := of_length 0 rfl (by decide)
theorem inc_SP : Statement .inc_SP := of_length 0 rfl (by decide)
theorem inc_mHL : Statement .inc_mHL := of_length 0 rfl (by decide)
theorem dec_mHL : Statement .dec_mHL := of_length 0 rfl (by decide)
theorem scf : Statement .scf := of_length 0 rfl (by decide)
theorem add_HL_SP : Statement .add_HL_SP := of_length 0 rfl (by decide)
theorem ld_A_mHLdec : Statement .ld_A_mHLdec := of_length 0 rfl (by decide)
theorem dec_SP : Statement .dec_SP := of_length 0 rfl (by decide)
theorem inc_A : Statement .inc_A := of_length 0 rfl (by decide)
theorem dec_A : Statement .dec_A := of_length 0 rfl (by decide)
theorem ccf : Statement .ccf := of_length 0 rfl (by decide)
theorem ld_B_B : Statement .ld_B_B := of_length 0 rfl (by decide)
theorem ld_B_C : Statement .ld_B_C := of_length 0 rfl (by decide)
theorem ld_B_D : Statement .ld_B_D := of_length 0 rfl (by decide)
theorem ld_B_E : Statement .ld_B_E := of_length 0 rfl (by decide)
theorem ld_B_H : Statement .ld_B_H := of_length 0 rfl (by decide)
theorem ld_B_L : Statement .ld_B_L := of_length 0 rfl (by decide)
theorem ld_B_mHL : Statement .ld_B_mHL := of_length 0 rfl (by decide)
theorem ld_B_A : Statement .ld_B_A := of_length 0 rfl (by decide)
theorem ld_C_B : Statement .ld_C_B := of_length 0 rfl (by decide)
theorem ld_C_C : Statement .ld_C_C := of_length 0 rfl (by decide)
theorem ld_C_D : Statement .ld_C_D := of_length 0 rfl (by decide)
theorem ld_C_E : Statement .ld_C_E := of_length 0 rfl (by decide)
theorem ld_C_H : Statement .ld_C_H := of_length 0 rfl (by decide)
theorem ld_C_L : Statement .ld_C_L := of_length 0 rfl (by decide)
theorem ld_C_mHL : Statement .ld_C_mHL := of_length 0 rfl (by decide)
theorem ld_C_A : Statement .ld_C_A := of_length 0 rfl (by decide)
theorem ld_D_B : Statement .ld_D_B := of_length 0 rfl (by decide)
theorem ld_D_C : Statement .ld_D_C := of_length 0 rfl (by decide)
theorem ld_D_D : Statement .ld_D_D := of_length 0 rfl (by decide)
theorem ld_D_E : Statement .ld_D_E := of_length 0 rfl (by decide)
theorem ld_D_H : Statement .ld_D_H := of_length 0 rfl (by decide)
theorem ld_D_L : Statement .ld_D_L := of_length 0 rfl (by decide)
theorem ld_D_mHL : Statement .ld_D_mHL := of_length 0 rfl (by decide)
theorem ld_D_A : Statement .ld_D_A := of_length 0 rfl (by decide)
theorem ld_E_B : Statement .ld_E_B := of_length 0 rfl (by decide)
theorem ld_E_C : Statement .ld_E_C := of_length 0 rfl (by decide)
theorem ld_E_D : Statement .ld_E_D := of_length 0 rfl (by decide)
theorem ld_E_E : Statement .ld_E_E := of_length 0 rfl (by decide)
theorem ld_E_H : Statement .ld_E_H := of_length 0 rfl (by decide)
theorem ld_E_L : Statement .ld_E_L := of_length 0 rfl (by decide)
theorem ld_E_mHL : Statement .ld_E_mHL := of_length 0 rfl (by decide)
theorem ld_E_A : Statement .ld_E_A := of_length 0 rfl (by decide)
theorem ld_H_B : Statement .ld_H_B := of_length 0 rfl (by decide)
theorem ld_H_C : Statement .ld_H_C := of_length 0 rfl (by decide)
theorem ld_H_D : Statement .ld_H_D := of_length 0 rfl (by decide)
theorem ld_H_E : Statement .ld_H_E := of_length 0 rfl (by decide)
theorem ld_H_H : Statement .ld_H_H := of_length 0 rfl (by decide)
theorem ld_H_L : Statement .ld_H_L := of_length 0 rfl (by decide)
theorem ld_H_mHL : Statement .ld_H_mHL := of_length 0 rfl (by decide)
theorem ld_H_A : Statement .ld_H_A := of_length 0 rfl (by decide)
theorem ld_L_B : Statement .ld_L_B := of_length 0 rfl (by decide)
theorem ld_L_C : Statement .ld_L_C := of_length 0 rfl (by decide)
theorem ld_L_D : Statement .ld_L_D := of_length 0 rfl (by decide)
theorem ld_L_E : Statement .ld_L_E := of_length 0 rfl (by decide)
theorem ld_L_H : Statement .ld_L_H := of_length 0 rfl (by decide)
theorem ld_L_L : Statement .ld_L_L := of_length 0 rfl (by decide)
theorem ld_L_mHL : Statement .ld_L_mHL := of_length 0 rfl (by decide)
theorem ld_L_A : Statement .ld_L_A := of_length 0 rfl (by decide)
theorem ld_mHL_B : Statement .ld_mHL_B := of_length 0 rfl (by decide)
theorem ld_mHL_C : Statement .ld_mHL_C := of_length 0 rfl (by decide)
theorem ld_mHL_D : Statement .ld_mHL_D := of_length 0 rfl (by decide)
theorem ld_mHL_E : Statement .ld_mHL_E := of_length 0 rfl (by decide)
theorem ld_mHL_H : Statement .ld_mHL_H := of_length 0 rfl (by decide)
theorem ld_mHL_L : Statement .ld_mHL_L := of_length 0 rfl (by decide)
theorem halt : Statement .halt := of_length 0 rfl (by decide)
theorem ld_mHL_A : Statement .ld_mHL_A := of_length 0 rfl (by decide)
theorem ld_A_B : Statement .ld_A_B := of_length 0 rfl (by decide)
theorem ld_A_C : Statement .ld_A_C := of_length 0 rfl (by decide)
theorem ld_A_D : Statement .ld_A_D := of_length 0 rfl (by decide)
theorem ld_A_E : Statement .ld_A_E := of_length 0 rfl (by decide)
theorem ld_A_H : Statement .ld_A_H := of_length 0 rfl (by decide)
theorem ld_A_L : Statement .ld_A_L := of_length 0 rfl (by decide)
theorem ld_A_mHL : Statement .ld_A_mHL := of_length 0 rfl (by decide)
theorem ld_A_A : Statement .ld_A_A := of_length 0 rfl (by decide)
theorem add_A_B : Statement .add_A_B := of_length 0 rfl (by decide)
theorem add_A_C : Statement .add_A_C := of_length 0 rfl (by decide)
theorem add_A_D : Statement .add_A_D := of_length 0 rfl (by decide)
theorem add_A_E : Statement .add_A_E := of_length 0 rfl (by decide)
theorem add_A_H : Statement .add_A_H := of_length 0 rfl (by decide)
theorem add_A_L : Statement .add_A_L := of_length 0 rfl (by decide)
theorem add_A_mHL : Statement .add_A_mHL := of_length 0 rfl (by decide)
theorem add_A_A : Statement .add_A_A := of_length 0 rfl (by decide)
theorem adc_A_B : Statement .adc_A_B := of_length 0 rfl (by decide)
theorem adc_A_C : Statement .adc_A_C := of_length 0 rfl (by decide)
theorem adc_A_D : Statement .adc_A_D := of_length 0 rfl (by decide)
theorem adc_A_E : Statement .adc_A_E := of_length 0 rfl (by decide)
theorem adc_A_H : Statement .adc_A_H := of_length 0 rfl (by decide)
theorem adc_A_L : Statement .adc_A_L := of_length 0 rfl (by decide)
theorem adc_A_mHL : Statement .adc_A_mHL := of_length 0 rfl (by decide)
theorem adc_A_A : Statement .adc_A_A := of_length 0 rfl (by decide)
theorem sub_B : Statement .sub_B := of_length 0 rfl (by decide)
theorem sub_C : Statement .sub_C := of_length 0 rfl (by decide)
theorem sub_D : Statement .sub_D := of_length 0 rfl (by decide)
theorem sub_E : Statement .sub_E := of_length 0 rfl (by decide)
theorem sub_H : Statement .sub_H := of_length 0 rfl (by decide)
theorem sub_L : Statement .sub_L := of_length 0 rfl (by decide)
theorem sub_mHL : Statement .sub_mHL := of_length 0 rfl (by decide)
theorem sub_A : Statement .sub_A := of_length 0 rfl (by decide)
theorem sbc_A_B : Statement .sbc_A_B := of_length 0 rfl (by decide)
theorem sbc_A_C : Statement .sbc_A_C := of_length 0 rfl (by decide)
theorem sbc_A_D : Statement .sbc_A_D := of_length 0 rfl (by decide)
theorem sbc_A_E : Statement .sbc_A_E := of_length 0 rfl (by decide)
theorem sbc_A_H : Statement .sbc_A_H := of_length 0 rfl (by decide)
theorem sbc_A_L : Statement .sbc_A_L := of_length 0 rfl (by decide)
theorem sbc_A_mHL : Statement .sbc_A_mHL := of_length 0 rfl (by decide)
theorem sbc_A_A : Statement .sbc_A_A := of_length 0 rfl (by decide)
theorem and_B : Statement .and_B := of_length 0 rfl (by decide)
theorem and_C : Statement .and_C := of_length 0 rfl (by decide)
theorem and_D : Statement .and_D := of_length 0 rfl (by decide)
theorem and_E : Statement .and_E := of_length 0 rfl (by decide)
theorem and_H : Statement .and_H := of_length 0 rfl (by decide)
theorem and_L : Statement .and_L := of_length 0 rfl (by decide)
theorem and_mHL : Statement .and_mHL := of_length 0 rfl (by decide)
theorem and_A : Statement .and_A := of_length 0 rfl (by decide)
theorem xor_B : Statement .xor_B := of_length 0 rfl (by decide)
theorem xor_C : Statement .xor_C := of_length 0 rfl (by decide)
theorem xor_D : Statement .xor_D := of_length 0 rfl (by decide)
theorem xor_E : Statement .xor_E := of_length 0 rfl (by decide)
theorem xor_H : Statement .xor_H := of_length 0 rfl (by decide)
theorem xor_L : Statement .xor_L := of_length 0 rfl (by decide)
theorem xor_mHL : Statement .xor_mHL := of_length 0 rfl (by decide)
theorem xor_A : Statement .xor_A := of_length 0 rfl (by decide)
theorem or_B : Statement .or_B := of_length 0 rfl (by decide)
theorem or_C : Statement .or_C := of_length 0 rfl (by decide)
theorem or_D : Statement .or_D := of_length 0 rfl (by decide)
theorem or_E : Statement .or_E := of_length 0 rfl (by decide)
theorem or_H : Statement .or_H := of_length 0 rfl (by decide)
theorem or_L : Statement .or_L := of_length 0 rfl (by decide)
theorem or_mHL : Statement .or_mHL := of_length 0 rfl (by decide)
theorem or_A : Statement .or_A := of_length 0 rfl (by decide)
theorem cp_B : Statement .cp_B := of_length 0 rfl (by decide)
theorem cp_C : Statement .cp_C := of_length 0 rfl (by decide)
theorem cp_D : Statement .cp_D := of_length 0 rfl (by decide)
theorem cp_E : Statement .cp_E := of_length 0 rfl (by decide)
theorem cp_H : Statement .cp_H := of_length 0 rfl (by decide)
theorem cp_L : Statement .cp_L := of_length 0 rfl (by decide)
theorem cp_mHL : Statement .cp_mHL := of_length 0 rfl (by decide)
theorem cp_A : Statement .cp_A := of_length 0 rfl (by decide)
theorem ret_NZ : Statement .ret_NZ := of_length 0 rfl (by decide)
theorem pop_BC : Statement .pop_BC := of_length 0 rfl (by decide)
theorem push_BC : Statement .push_BC := of_length 0 rfl (by decide)
theorem rst_00H : Statement .rst_00H := of_length 0 rfl (by decide)
theorem ret_Z : Statement .ret_Z := of_length 0 rfl (by decide)
theorem ret : Statement .ret := of_length 0 rfl (by decide)
theorem rst_08H : Statement .rst_08H := of_length 0 rfl (by decide)
theorem ret_NC : Statement .ret_NC := of_length 0 rfl (by decide)
theorem pop_DE : Statement .pop_DE := of_length 0 rfl (by decide)
theorem illegal_D3 : Statement .illegal_D3 := of_length 0 rfl (by decide)
theorem push_DE : Statement .push_DE := of_length 0 rfl (by decide)
theorem rst_10H : Statement .rst_10H := of_length 0 rfl (by decide)
theorem ret_C : Statement .ret_C := of_length 0 rfl (by decide)
theorem reti : Statement .reti := of_length 0 rfl (by decide)
theorem illegal_DB : Statement .illegal_DB := of_length 0 rfl (by decide)
theorem illegal_DD : Statement .illegal_DD := of_length 0 rfl (by decide)
theorem rst_18H : Statement .rst_18H := of_length 0 rfl (by decide)
theorem pop_HL : Statement .pop_HL := of_length 0 rfl (by decide)
theorem ld_mC_A : Statement .ld_mC_A := of_length 0 rfl (by decide)
theorem illegal_E3 : Statement .illegal_E3 := of_length 0 rfl (by decide)
theorem illegal_E4 : Statement .illegal_E4 := of_length 0 rfl (by decide)
theorem push_HL : Statement .push_HL := of_length 0 rfl (by decide)
theorem rst_20H : Statement .rst_20H := of_length 0 rfl (by decide)
theorem jp_HL : Statement .jp_HL := of_length 0 rfl (by decide)
theorem illegal_EB : Statement .illegal_EB := of_length 0 rfl (by decide)
theorem illegal_EC : Statement .illegal_EC := of_length 0 rfl (by decide)
theorem illegal_ED : Statement .illegal_ED := of_length 0 rfl (by decide)
theorem rst_28H : Statement .rst_28H := of_length 0 rfl (by decide)
theorem pop_AF : Statement .pop_AF := of_length 0 rfl (by decide)
theorem ld_A_mC : Statement .ld_A_mC := of_length 0 rfl (by decide)
theorem di : Statement .di := of_length 0 rfl (by decide)
theorem illegal_F4 : Statement .illegal_F4 := of_length 0 rfl (by decide)
theorem push_AF : Statement .push_AF := of_length 0 rfl (by decide)
theorem rst_30H : Statement .rst_30H := of_length 0 rfl (by decide)
theorem ld_SP_HL : Statement .ld_SP_HL := of_length 0 rfl (by decide)
theorem ei : Statement .ei := of_length 0 rfl (by decide)
theorem illegal_FC : Statement .illegal_FC := of_length 0 rfl (by decide)
theorem illegal_FD : Statement .illegal_FD := of_length 0 rfl (by decide)
theorem rst_38H : Statement .rst_38H := of_length 0 rfl (by decide)
theorem rlc_B : Statement .rlc_B := of_length 1 rfl (by decide)
theorem rlc_C : Statement .rlc_C := of_length 1 rfl (by decide)
theorem rlc_D : Statement .rlc_D := of_length 1 rfl (by decide)
theorem rlc_E : Statement .rlc_E := of_length 1 rfl (by decide)
theorem rlc_H : Statement .rlc_H := of_length 1 rfl (by decide)
theorem rlc_L : Statement .rlc_L := of_length 1 rfl (by decide)
theorem rlc_mHL : Statement .rlc_mHL := of_length 1 rfl (by decide)
theorem rlc_A : Statement .rlc_A := of_length 1 rfl (by decide)
theorem rrc_B : Statement .rrc_B := of_length 1 rfl (by decide)
theorem rrc_C : Statement .rrc_C := of_length 1 rfl (by decide)
theorem rrc_D : Statement .rrc_D := of_length 1 rfl (by decide)
theorem rrc_E : Statement .rrc_E := of_length 1 rfl (by decide)
theorem rrc_H : Statement .rrc_H := of_length 1 rfl (by decide)
theorem rrc_L : Statement .rrc_L := of_length 1 rfl (by decide)
theorem rrc_mHL : Statement .rrc_mHL := of_length 1 rfl (by decide)
theorem rrc_A : Statement .rrc_A := of_length 1 rfl (by decide)
theorem rl_B : Statement .rl_B := of_length 1 rfl (by decide)
theorem rl_C : Statement .rl_C := of_length 1 rfl (by decide)
theorem rl_D : Statement .rl_D := of_length 1 rfl (by decide)
theorem rl_E : Statement .rl_E := of_length 1 rfl (by decide)
theorem rl_H : Statement .rl_H := of_length 1 rfl (by decide)
theorem rl_L : Statement .rl_L := of_length 1 rfl (by decide)
theorem rl_mHL : Statement .rl_mHL := of_length 1 rfl (by decide)
theorem rl_A : Statement .rl_A := of_length 1 rfl (by decide)
theorem rr_B : Statement .rr_B := of_length 1 rfl (by decide)
theorem rr_C : Statement .rr_C := of_length 1 rfl (by decide)
theorem rr_D : Statement .rr_D := of_length 1 rfl (by decide)
theorem rr_E : Statement .rr_E := of_length 1 rfl (by decide)
theorem rr_H : Statement .rr_H := of_length 1 rfl (by decide)
theorem rr_L : Statement .rr_L := of_length 1 rfl (by decide)
theorem rr_mHL : Statement .rr_mHL := of_length 1 rfl (by decide)
theorem rr_A : Statement .rr_A := of_length 1 rfl (by decide)
theorem sla_B : Statement .sla_B := of_length 1 rfl (by decide)
theorem sla_C : Statement .sla_C := of_length 1 rfl (by decide)
theorem sla_D : Statement .sla_D := of_length 1 rfl (by decide)
theorem sla_E : Statement .sla_E := of_length 1 rfl (by decide)
theorem sla_H : Statement .sla_H := of_length 1 rfl (by decide)
theorem sla_L : Statement .sla_L := of_length 1 rfl (by decide)
theorem sla_mHL : Statement .sla_mHL := of_length 1 rfl (by decide)
theorem sla_A : Statement .sla_A := of_length 1 rfl (by decide)
theorem sra_B : Statement .sra_B := of_length 1 rfl (by decide)
theorem sra_C : Statement .sra_C := of_length 1 rfl (by decide)
theorem sra_D : Statement .sra_D := of_length 1 rfl (by decide)
theorem sra_E : Statement .sra_E := of_length 1 rfl (by decide)
theorem sra_H : Statement .sra_H := of_length 1 rfl (by decide)
theorem sra_L : Statement .sra_L := of_length 1 rfl (by decide)
theorem sra_mHL : Statement .sra_mHL := of_length 1 rfl (by decide)
theorem sra_A : Statement .sra_A := of_length 1 rfl (by decide)
theorem swap_B : Statement .swap_B := of_length 1 rfl (by decide)
theorem swap_C : Statement .swap_C := of_length 1 rfl (by decide)
theorem swap_D : Statement .swap_D := of_length 1 rfl (by decide)
theorem swap_E : Statement .swap_E := of_length 1 rfl (by decide)
theorem swap_H : Statement .swap_H := of_length 1 rfl (by decide)
theorem swap_L : Statement .swap_L := of_length 1 rfl (by decide)
theorem swap_mHL : Statement .swap_mHL := of_length 1 rfl (by decide)
theorem swap_A : Statement .swap_A := of_length 1 rfl (by decide)
theorem srl_B : Statement .srl_B := of_length 1 rfl (by decide)
theorem srl_C : Statement .srl_C := of_length 1 rfl (by decide)
theorem srl_D : Statement .srl_D := of_length 1 rfl (by decide)
theorem srl_E : Statement .srl_E := of_length 1 rfl (by decide)
theorem srl_H : Statement .srl_H := of_length 1 rfl (by decide)
theorem srl_L : Statement .srl_L := of_length 1 rfl (by decide)
theorem srl_mHL : Statement .srl_mHL := of_length 1 rfl (by decide)
theorem srl_A : Statement .srl_A := of_length 1 rfl (by decide)
theorem bit_0_B : Statement .bit_0_B := of_length 1 rfl (by decide)
theorem bit_0_C : Statement .bit_0_C := of_length 1 rfl (by decide)
theorem bit_0_D : Statement .bit_0_D := of_length 1 rfl (by decide)
theorem bit_0_E : Statement .bit_0_E := of_length 1 rfl (by decide)
theorem bit_0_H : Statement .bit_0_H := of_length 1 rfl (by decide)
theorem bit_0_L : Statement .bit_0_L := of_length 1 rfl (by decide)
theorem bit_0_mHL : Statement .bit_0_mHL := of_length 1 rfl (by decide)
theorem bit_0_A : Statement .bit_0_A := of_length 1 rfl (by decide)
theorem bit_1_B : Statement .bit_1_B := of_length 1 rfl (by decide)
theorem bit_1_C : Statement .bit_1_C := of_length 1 rfl (by decide)
theorem bit_1_D : Statement .bit_1_D := of_length 1 rfl (by decide)
theorem bit_1_E : Statement .bit_1_E := of_length 1 rfl (by decide)
theorem bit_1_H : Statement .bit_1_H := of_length 1 rfl (by decide)
theorem bit_1_L : Statement .bit_1_L := of_length 1 rfl (by decide)
theorem bit_1_mHL : Statement .bit_1_mHL := of_length 1 rfl (by decide)
theorem bit_1_A : Statement .bit_1_A := of_length 1 rfl (by decide)
theorem bit_2_B : Statement .bit_2_B := of_length 1 rfl (by decide)
theorem bit_2_C : Statement .bit_2_C := of_length 1 rfl (by decide)
theorem bit_2_D : Statement .bit_2_D := of_length 1 rfl (by decide)
theorem bit_2_E : Statement .bit_2_E := of_length 1 rfl (by decide)
theorem bit_2_H : Statement .bit_2_H := of_length 1 rfl (by decide)
theorem bit_2_L : Statement .bit_2_L := of_length 1 rfl (by decide)
theorem bit_2_mHL : Statement .bit_2_mHL := of_length 1 rfl (by decide)
theorem bit_2_A : Statement .bit_2_A := of_length 1 rfl (by decide)
theorem bit_3_B : Statement .bit_3_B := of_length 1 rfl (by decide)
theorem bit_3_C : Statement .bit_3_C := of_length 1 rfl (by decide)
theorem bit_3_D : Statement .bit_3_D := of_length 1 rfl (by decide)
theorem bit_3_E : Statement .bit_3_E := of_length 1 rfl (by decide)
theorem bit_3_H : Statement .bit_3_H := of_length 1 rfl (by decide)
theorem bit_3_L : Statement .bit_3_L := of_length 1 rfl (by decide)
theorem bit_3_mHL : Statement .bit_3_mHL := of_length 1 rfl (by decide)
theorem bit_3_A : Statement .bit_3_A := of_length 1 rfl (by decide)
theorem bit_4_B : Statement .bit_4_B := of_length 1 rfl (by decide)
theorem bit_4_C : Statement .bit_4_C := of_length 1 rfl (by decide)
theorem bit_4_D : Statement .bit_4_D := of_length 1 rfl (by decide)
theorem bit_4_E : Statement .bit_4_E := of_length 1 rfl (by decide)
theorem bit_4_H : Statement .bit_4_H := of_length 1 rfl (by decide)
theorem bit_4_L : Statement .bit_4_L := of_length 1 rfl (by decide)
theorem bit_4_mHL : Statement .bit_4_mHL := of_length 1 rfl (by decide)
theorem bit_4_A : Statement .bit_4_A := of_length 1 rfl (by decide)
theorem bit_5_B : Statement .bit_5_B := of_length 1 rfl (by decide)
theorem bit_5_C : Statement .bit_5_C := of_length 1 rfl (by decide)
theorem bit_5_D : Statement .bit_5_D := of_length 1 rfl (by decide)
theorem bit_5_E : Statement .bit_5_E := of_length 1 rfl (by decide)
theorem bit_5_H : Statement .bit_5_H := of_length 1 rfl (by decide)
theorem bit_5_L : Statement .bit_5_L := of_length 1 rfl (by decide)
theorem bit_5_mHL : Statement .bit_5_mHL := of_length 1 rfl (by decide)
theorem bit_5_A : Statement .bit_5_A := of_length 1 rfl (by decide)
theorem bit_6_B : Statement .bit_6_B := of_length 1 rfl (by decide)
theorem bit_6_C : Statement .bit_6_C := of_length 1 rfl (by decide)
theorem bit_6_D : Statement .bit_6_D := of_length 1 rfl (by decide)
theorem bit_6_E : Statement .bit_6_E := of_length 1 rfl (by decide)
theorem bit_6_H : Statement .bit_6_H := of_length 1 rfl (by decide)
theorem bit_6_L : Statement .bit_6_L := of_length 1 rfl (by decide)
theorem bit_6_mHL : Statement .bit_6_mHL := of_length 1 rfl (by decide)
theorem bit_6_A : Statement .bit_6_A := of_length 1 rfl (by decide)
theorem bit_7_B : Statement .bit_7_B := of_length 1 rfl (by decide)
theorem bit_7_C : Statement .bit_7_C := of_length 1 rfl (by decide)
theorem bit_7_D : Statement .bit_7_D := of_length 1 rfl (by decide)
theorem bit_7_E : Statement .bit_7_E := of_length 1 rfl (by decide)
theorem bit_7_H : Statement .bit_7_H := of_length 1 rfl (by decide)
theorem bit_7_L : Statement .bit_7_L := of_length 1 rfl (by decide)
theorem bit_7_mHL : Statement .bit_7_mHL := of_length 1 rfl (by decide)
theorem bit_7_A : Statement .bit_7_A := of_length 1 rfl (by decide)
theorem res_0_B : Statement .res_0_B := of_length 1 rfl (by decide)
theorem res_0_C : Statement .res_0_C := of_length 1 rfl (by decide)
theorem res_0_D : Statement .res_0_D := of_length 1 rfl (by decide)
theorem res_0_E : Statement .res_0_E := of_length 1 rfl (by decide)
theorem res_0_H : Statement .res_0_H := of_length 1 rfl (by decide)
theorem res_0_L : Statement .res_0_L := of_length 1 rfl (by decide)
theorem res_0_mHL : Statement .res_0_mHL := of_length 1 rfl (by decide)
theorem res_0_A : Statement .res_0_A := of_length 1 rfl (by decide)
theorem res_1_B : Statement .res_1_B := of_length 1 rfl (by decide)
theorem res_1_C : Statement .res_1_C := of_length 1 rfl (by decide)
theorem res_1_D : Statement .res_1_D := of_length 1 rfl (by decide)
theorem res_1_E : Statement .res_1_E := of_length 1 rfl (by decide)
theorem res_1_H : Statement .res_1_H := of_length 1 rfl (by decide)
theorem res_1_L : Statement .res_1_L := of_length 1 rfl (by decide)
theorem res_1_mHL : Statement .res_1_mHL := of_length 1 rfl (by decide)
theorem res_1_A : Statement .res_1_A := of_length 1 rfl (by decide)
theorem res_2_B : Statement .res_2_B := of_length 1 rfl (by decide)
theorem res_2_C : Statement .res_2_C := of_length 1 rfl (by decide)
theorem res_2_D : Statement .res_2_D := of_length 1 rfl (by decide)
theorem res_2_E : Statement .res_2_E := of_length 1 rfl (by decide)
theorem res_2_H : Statement .res_2_H := of_length 1 rfl (by decide)
theorem res_2_L : Statement .res_2_L := of_length 1 rfl (by decide)
theorem res_2_mHL : Statement .res_2_mHL := of_length 1 rfl (by decide)
theorem res_2_A : Statement .res_2_A := of_length 1 rfl (by decide)
theorem res_3_B : Statement .res_3_B := of_length 1 rfl (by decide)
theorem res_3_C : Statement .res_3_C := of_length 1 rfl (by decide)
theorem res_3_D : Statement .res_3_D := of_length 1 rfl (by decide)
theorem res_3_E : Statement .res_3_E := of_length 1 rfl (by decide)
theorem res_3_H : Statement .res_3_H := of_length 1 rfl (by decide)
theorem res_3_L : Statement .res_3_L := of_length 1 rfl (by decide)
theorem res_3_mHL : Statement .res_3_mHL := of_length 1 rfl (by decide)
theorem res_3_A : Statement .res_3_A := of_length 1 rfl (by decide)
theorem res_4_B : Statement .res_4_B := of_length 1 rfl (by decide)
theorem res_4_C : Statement .res_4_C := of_length 1 rfl (by decide)
theorem res_4_D : Statement .res_4_D := of_length 1 rfl (by decide)
theorem res_4_E : Statement .res_4_E := of_length 1 rfl (by decide)
theorem res_4_H : Statement .res_4_H := of_length 1 rfl (by decide)
theorem res_4_L : Statement .res_4_L := of_length 1 rfl (by decide)
theorem res_4_mHL : Statement .res_4_mHL := of_length 1 rfl (by decide)
theorem res_4_A : Statement .res_4_A := of_length 1 rfl (by decide)
theorem res_5_B : Statement .res_5_B := of_length 1 rfl (by decide)
theorem res_5_C : Statement .res_5_C := of_length 1 rfl (by decide)
theorem res_5_D : Statement .res_5_D := of_length 1 rfl (by decide)
theorem res_5_E : Statement .res_5_E := of_length 1 rfl (by decide)
theorem res_5_H : Statement .res_5_H := of_length 1 rfl (by decide)
theorem res_5_L : Statement .res_5_L := of_length 1 rfl (by decide)
theorem res_5_mHL : Statement .res_5_mHL := of_length 1 rfl (by decide)
theorem res_5_A : Statement .res_5_A := of_length 1 rfl (by decide)
theorem res_6_B : Statement .res_6_B := of_length 1 rfl (by decide)
theorem res_6_C : Statement .res_6_C := of_length 1 rfl (by decide)
theorem res_6_D : Statement .res_6_D := of_length 1 rfl (by decide)
theorem res_6_E : Statement .res_6_E := of_length 1 rfl (by decide)
theorem res_6_H : Statement .res_6_H := of_length 1 rfl (by decide)
theorem res_6_L : Statement .res_6_L := of_length 1 rfl (by decide)
theorem res_6_mHL : Statement .res_6_mHL := of_length 1 rfl (by decide)
theorem res_6_A : Statement .res_6_A := of_length 1 rfl (by decide)
theorem res_7_B : Statement .res_7_B := of_length 1 rfl (by decide)
theorem res_7_C : Statement .res_7_C := of_length 1 rfl (by decide)
theorem res_7_D : Statement .res_7_D := of_length 1 rfl (by decide)
theorem res_7_E : Statement .res_7_E := of_length 1 rfl (by decide)
theorem res_7_H : Statement .res_7_H := of_length 1 rfl (by decide)
theorem res_7_L : Statement .res_7_L := of_length 1 rfl (by decide)
theorem res_7_mHL : Statement .res_7_mHL := of_length 1 rfl (by decide)
theorem res_7_A : Statement .res_7_A := of_length 1 rfl (by decide)
theorem set_0_B : Statement .set_0_B := of_length 1 rfl (by decide)
theorem set_0_C : Statement .set_0_C := of_length 1 rfl (by decide)
theorem set_0_D : Statement .set_0_D := of_length 1 rfl (by decide)
theorem set_0_E : Statement .set_0_E := of_length 1 rfl (by decide)
theorem set_0_H : Statement .set_0_H := of_length 1 rfl (by decide)
theorem set_0_L : Statement .set_0_L := of_length 1 rfl (by decide)
theorem set_0_mHL : Statement .set_0_mHL := of_length 1 rfl (by decide)
theorem set_0_A : Statement .set_0_A := of_length 1 rfl (by decide)
theorem set_1_B : Statement .set_1_B := of_length 1 rfl (by decide)
theorem set_1_C : Statement .set_1_C := of_length 1 rfl (by decide)
theorem set_1_D : Statement .set_1_D := of_length 1 rfl (by decide)
theorem set_1_E : Statement .set_1_E := of_length 1 rfl (by decide)
theorem set_1_H : Statement .set_1_H := of_length 1 rfl (by decide)
theorem set_1_L : Statement .set_1_L := of_length 1 rfl (by decide)
theorem set_1_mHL : Statement .set_1_mHL := of_length 1 rfl (by decide)
theorem set_1_A : Statement .set_1_A := of_length 1 rfl (by decide)
theorem set_2_B : Statement .set_2_B := of_length 1 rfl (by decide)
theorem set_2_C : Statement .set_2_C := of_length 1 rfl (by decide)
theorem set_2_D : Statement .set_2_D := of_length 1 rfl (by decide)
theorem set_2_E : Statement .set_2_E := of_length 1 rfl (by decide)
theorem set_2_H : Statement .set_2_H := of_length 1 rfl (by decide)
theorem set_2_L : Statement .set_2_L := of_length 1 rfl (by decide)
theorem set_2_mHL : Statement .set_2_mHL := of_length 1 rfl (by decide)
theorem set_2_A : Statement .set_2_A := of_length 1 rfl (by decide)
theorem set_3_B : Statement .set_3_B := of_length 1 rfl (by decide)
theorem set_3_C : Statement .set_3_C := of_length 1 rfl (by decide)
theorem set_3_D : Statement .set_3_D := of_length 1 rfl (by decide)
theorem set_3_E : Statement .set_3_E := of_length 1 rfl (by decide)
theorem set_3_H : Statement .set_3_H := of_length 1 rfl (by decide)
theorem set_3_L : Statement .set_3_L := of_length 1 rfl (by decide)
theorem set_3_mHL : Statement .set_3_mHL := of_length 1 rfl (by decide)
theorem set_3_A : Statement .set_3_A := of_length 1 rfl (by decide)
theorem set_4_B : Statement .set_4_B := of_length 1 rfl (by decide)
theorem set_4_C : Statement .set_4_C := of_length 1 rfl (by decide)
theorem set_4_D : Statement .set_4_D := of_length 1 rfl (by decide)
theorem set_4_E : Statement .set_4_E := of_length 1 rfl (by decide)
theorem set_4_H : Statement .set_4_H := of_length 1 rfl (by decide)
theorem set_4_L : Statement .set_4_L := of_length 1 rfl (by decide)
theorem set_4_mHL : Statement .set_4_mHL := of_length 1 rfl (by decide)
theorem set_4_A : Statement .set_4_A := of_length 1 rfl (by decide)
theorem set_5_B : Statement .set_5_B := of_length 1 rfl (by decide)
theorem set_5_C : Statement .set_5_C := of_length 1 rfl (by decide)
theorem set_5_D : Statement .set_5_D := of_length 1 rfl (by decide)
theorem set_5_E : Statement .set_5_E := of_length 1 rfl (by decide)
theorem set_5_H : Statement .set_5_H := of_length 1 rfl (by decide)
theorem set_5_L : Statement .set_5_L := of_length 1 rfl (by decide)
theorem set_5_mHL : Statement .set_5_mHL := of_length 1 rfl (by decide)
theorem set_5_A : Statement .set_5_A := of_length 1 rfl (by decide)
theorem set_6_B : Statement .set_6_B := of_length 1 rfl (by decide)
theorem set_6_C : Statement .set_6_C := of_length 1 rfl (by decide)
theorem set_6_D : Statement .set_6_D := of_length 1 rfl (by decide)
theorem set_6_E : Statement .set_6_E := of_length 1 rfl (by decide)
theorem set_6_H : Statement .set_6_H := of_length 1 rfl (by decide)
theorem set_6_L : Statement .set_6_L := of_length 1 rfl (by decide)
theorem set_6_mHL : Statement .set_6_mHL := of_length 1 rfl (by decide)
theorem set_6_A : Statement .set_6_A := of_length 1 rfl (by decide)
theorem set_7_B : Statement .set_7_B := of_length 1 rfl (by decide)
theorem set_7_C : Statement .set_7_C := of_length 1 rfl (by decide)
theorem set_7_D : Statement .set_7_D := of_length 1 rfl (by decide)
theorem set_7_E : Statement .set_7_E := of_length 1 rfl (by decide)
theorem set_7_H : Statement .set_7_H := of_length 1 rfl (by decide)
theorem set_7_L : Statement .set_7_L := of_length 1 rfl (by decide)
theorem set_7_mHL : Statement .set_7_mHL := of_length 1 rfl (by decide)
theorem set_7_A : Statement .set_7_A := of_length 1 rfl (by decide)

end Sys2Proof.Laws.EncodeLength
end

