-- ==== Sys2Proof/Tests/Slice0.lean ====
section
/-! SUPPORT. The model's own tests: ill-formed terms that `WellFormed` refuses, words written out from the
spec's encodings, one step of each instruction with the result the rule's example gives, and for every
statement with hypotheses a state that meets them. -/

open Sys2Proof Sys2Proof.Machine Sys2Proof.Stated

namespace Sys2Proof.Tests

set_option Elab.async false

/-! ## Ill-formed terms -/

theorem test_refuses_alu_mode : WellFormed (.lda (.zpy 0x10)) = false := by decide
theorem test_refuses_alu_mode_adc : WellFormed (.adc (.zpy 0x10)) = false := by decide
theorem test_refuses_sta_mode : WellFormed (.sta (.imm 0x10)) = false := by decide
theorem test_refuses_ldx_mode : WellFormed (.ldx (.zpx 0x10)) = false := by decide
theorem test_refuses_ldy_mode : WellFormed (.ldy (.zpy 0x10)) = false := by decide
theorem test_refuses_stx_mode : WellFormed (.stx (.abx 0x1234)) = false := by decide
theorem test_refuses_sty_mode : WellFormed (.sty (.zpy 0x10)) = false := by decide
theorem test_refuses_cpx_mode : WellFormed (.cpx (.zpx 0x10)) = false := by decide
theorem test_refuses_bit_mode : WellFormed (.bit (.imm 0x10)) = false := by decide
theorem test_refuses_rmw_mode : WellFormed (.inc (.aby 0x1234)) = false := by decide
theorem test_refuses_shift_mode : WellFormed (.asl (.mem (.imm 0x10))) = false := by decide
theorem test_refuses_documented_ill : WellFormed (.ill 0xA9) = false := by decide
theorem test_refuses_bare_prefix : WellFormed (.prefixCB 0x00) = false := by decide

/-! ## Decoding: one word per constructor and mode, from spec/opcode_table.json with the bytes of its formats
(R142, R160, R164); the operand bytes are 0x34 and, for a 16-bit operand, 0x34 0x12 -/

def m6502Words0 : List (Byte × Instr) :=
  [(0x00, .brk), (0x01, .ora (.izx 0x34)), (0x05, .ora (.zp 0x34)), (0x06, .asl (.mem (.zp 0x34))),
   (0x08, .php), (0x09, .ora (.imm 0x34)), (0x0A, .asl .acc), (0x0D, .ora (.abs 0x1234)),
   (0x0E, .asl (.mem (.abs 0x1234))), (0x10, .bpl 0x34), (0x11, .ora (.izy 0x34)), (0x15, .ora (.zpx 0x34)),
   (0x16, .asl (.mem (.zpx 0x34))), (0x18, .clc), (0x19, .ora (.aby 0x1234)), (0x1D, .ora (.abx 0x1234)),
   (0x1E, .asl (.mem (.abx 0x1234))), (0x20, .jsr 0x1234), (0x21, .and (.izx 0x34)), (0x24, .bit (.zp 0x34)),
   (0x25, .and (.zp 0x34)), (0x26, .rol (.mem (.zp 0x34))), (0x28, .plp), (0x29, .and (.imm 0x34)),
   (0x2A, .rol .acc), (0x2C, .bit (.abs 0x1234)), (0x2D, .and (.abs 0x1234)), (0x2E, .rol (.mem (.abs 0x1234))),
   (0x30, .bmi 0x34), (0x31, .and (.izy 0x34)), (0x35, .and (.zpx 0x34)), (0x36, .rol (.mem (.zpx 0x34))),
   (0x38, .sec), (0x39, .and (.aby 0x1234)), (0x3D, .and (.abx 0x1234)), (0x3E, .rol (.mem (.abx 0x1234))),
   (0x40, .rti), (0x41, .eor (.izx 0x34)), (0x45, .eor (.zp 0x34)), (0x46, .lsr (.mem (.zp 0x34))),
   (0x48, .pha), (0x49, .eor (.imm 0x34)), (0x4A, .lsr .acc), (0x4C, .jmp (.abs 0x1234)),
   (0x4D, .eor (.abs 0x1234)), (0x4E, .lsr (.mem (.abs 0x1234))), (0x50, .bvc 0x34), (0x51, .eor (.izy 0x34)),
   (0x55, .eor (.zpx 0x34)), (0x56, .lsr (.mem (.zpx 0x34))), (0x58, .cli)]

theorem test_m6502Words0 : ∀ e ∈ m6502Words0, decodeM6502 e.1 0x34 0x12 = e.2 := by decide +kernel

def m6502Words1 : List (Byte × Instr) :=
  [(0x59, .eor (.aby 0x1234)), (0x5D, .eor (.abx 0x1234)), (0x5E, .lsr (.mem (.abx 0x1234))), (0x60, .rts),
   (0x61, .adc (.izx 0x34)), (0x65, .adc (.zp 0x34)), (0x66, .ror (.mem (.zp 0x34))), (0x68, .pla),
   (0x69, .adc (.imm 0x34)), (0x6A, .ror .acc), (0x6C, .jmp (.ind 0x1234)), (0x6D, .adc (.abs 0x1234)),
   (0x6E, .ror (.mem (.abs 0x1234))), (0x70, .bvs 0x34), (0x71, .adc (.izy 0x34)), (0x75, .adc (.zpx 0x34)),
   (0x76, .ror (.mem (.zpx 0x34))), (0x78, .sei), (0x79, .adc (.aby 0x1234)), (0x7D, .adc (.abx 0x1234)),
   (0x7E, .ror (.mem (.abx 0x1234))), (0x81, .sta (.izx 0x34)), (0x84, .sty (.zp 0x34)), (0x85, .sta (.zp 0x34)),
   (0x86, .stx (.zp 0x34)), (0x88, .dey), (0x8A, .txa), (0x8C, .sty (.abs 0x1234)),
   (0x8D, .sta (.abs 0x1234)), (0x8E, .stx (.abs 0x1234)), (0x90, .bcc 0x34), (0x91, .sta (.izy 0x34)),
   (0x94, .sty (.zpx 0x34)), (0x95, .sta (.zpx 0x34)), (0x96, .stx (.zpy 0x34)), (0x98, .tya),
   (0x99, .sta (.aby 0x1234)), (0x9A, .txs), (0x9D, .sta (.abx 0x1234)), (0xA0, .ldy (.imm 0x34)),
   (0xA1, .lda (.izx 0x34)), (0xA2, .ldx (.imm 0x34)), (0xA4, .ldy (.zp 0x34)), (0xA5, .lda (.zp 0x34)),
   (0xA6, .ldx (.zp 0x34)), (0xA8, .tay), (0xA9, .lda (.imm 0x34)), (0xAA, .tax),
   (0xAC, .ldy (.abs 0x1234)), (0xAD, .lda (.abs 0x1234)), (0xAE, .ldx (.abs 0x1234))]

theorem test_m6502Words1 : ∀ e ∈ m6502Words1, decodeM6502 e.1 0x34 0x12 = e.2 := by decide +kernel

def m6502Words2 : List (Byte × Instr) :=
  [(0xB0, .bcs 0x34), (0xB1, .lda (.izy 0x34)), (0xB4, .ldy (.zpx 0x34)), (0xB5, .lda (.zpx 0x34)),
   (0xB6, .ldx (.zpy 0x34)), (0xB8, .clv), (0xB9, .lda (.aby 0x1234)), (0xBA, .tsx),
   (0xBC, .ldy (.abx 0x1234)), (0xBD, .lda (.abx 0x1234)), (0xBE, .ldx (.aby 0x1234)), (0xC0, .cpy (.imm 0x34)),
   (0xC1, .cmp (.izx 0x34)), (0xC4, .cpy (.zp 0x34)), (0xC5, .cmp (.zp 0x34)), (0xC6, .dec (.zp 0x34)),
   (0xC8, .iny), (0xC9, .cmp (.imm 0x34)), (0xCA, .dex), (0xCC, .cpy (.abs 0x1234)),
   (0xCD, .cmp (.abs 0x1234)), (0xCE, .dec (.abs 0x1234)), (0xD0, .bne 0x34), (0xD1, .cmp (.izy 0x34)),
   (0xD5, .cmp (.zpx 0x34)), (0xD6, .dec (.zpx 0x34)), (0xD8, .cld), (0xD9, .cmp (.aby 0x1234)),
   (0xDD, .cmp (.abx 0x1234)), (0xDE, .dec (.abx 0x1234)), (0xE0, .cpx (.imm 0x34)), (0xE1, .sbc (.izx 0x34)),
   (0xE4, .cpx (.zp 0x34)), (0xE5, .sbc (.zp 0x34)), (0xE6, .inc (.zp 0x34)), (0xE8, .inx),
   (0xE9, .sbc (.imm 0x34)), (0xEA, .nop_6502), (0xEC, .cpx (.abs 0x1234)), (0xED, .sbc (.abs 0x1234)),
   (0xEE, .inc (.abs 0x1234)), (0xF0, .beq 0x34), (0xF1, .sbc (.izy 0x34)), (0xF5, .sbc (.zpx 0x34)),
   (0xF6, .inc (.zpx 0x34)), (0xF8, .sed), (0xF9, .sbc (.aby 0x1234)), (0xFD, .sbc (.abx 0x1234)),
   (0xFE, .inc (.abx 0x1234))]

theorem test_m6502Words2 : ∀ e ∈ m6502Words2, decodeM6502 e.1 0x34 0x12 = e.2 := by decide +kernel

def sm83Words0 : List (Byte × Instr) :=
  [(0x00, .nop_sm83), (0x01, .ld_BC_d16 0x1234), (0x02, .ld_mBC_A), (0x03, .inc_BC),
   (0x04, .inc_B), (0x05, .dec_B), (0x06, .ld_B_d8 0x34), (0x07, .rlca),
   (0x08, .ld_ma16_SP 0x1234), (0x09, .add_HL_BC), (0x0A, .ld_A_mBC), (0x0B, .dec_BC),
   (0x0C, .inc_C), (0x0D, .dec_C), (0x0E, .ld_C_d8 0x34), (0x0F, .rrca),
   (0x10, .stop 0x34), (0x11, .ld_DE_d16 0x1234), (0x12, .ld_mDE_A), (0x13, .inc_DE),
   (0x14, .inc_D), (0x15, .dec_D), (0x16, .ld_D_d8 0x34), (0x17, .rla),
   (0x18, .jr_r8 0x34), (0x19, .add_HL_DE), (0x1A, .ld_A_mDE), (0x1B, .dec_DE),
   (0x1C, .inc_E), (0x1D, .dec_E), (0x1E, .ld_E_d8 0x34), (0x1F, .rra),
   (0x20, .jr_NZ_r8 0x34), (0x21, .ld_HL_d16 0x1234), (0x22, .ld_mHLinc_A), (0x23, .inc_HL),
   (0x24, .inc_H), (0x25, .dec_H), (0x26, .ld_H_d8 0x34), (0x27, .daa),
   (0x28, .jr_Z_r8 0x34), (0x29, .add_HL_HL), (0x2A, .ld_A_mHLinc), (0x2B, .dec_HL),
   (0x2C, .inc_L), (0x2D, .dec_L), (0x2E, .ld_L_d8 0x34), (0x2F, .cpl),
   (0x30, .jr_NC_r8 0x34), (0x31, .ld_SP_d16 0x1234), (0x32, .ld_mHLdec_A), (0x33, .inc_SP),
   (0x34, .inc_mHL), (0x35, .dec_mHL), (0x36, .ld_mHL_d8 0x34), (0x37, .scf),
   (0x38, .jr_C_r8 0x34), (0x39, .add_HL_SP), (0x3A, .ld_A_mHLdec), (0x3B, .dec_SP),
   (0x3C, .inc_A), (0x3D, .dec_A), (0x3E, .ld_A_d8 0x34), (0x3F, .ccf)]

theorem test_sm83Words0 : ∀ e ∈ sm83Words0, decodeSm83 e.1 0x34 0x12 = e.2 := by decide +kernel

def sm83Words1 : List (Byte × Instr) :=
  [(0x40, .ld_B_B), (0x41, .ld_B_C), (0x42, .ld_B_D), (0x43, .ld_B_E),
   (0x44, .ld_B_H), (0x45, .ld_B_L), (0x46, .ld_B_mHL), (0x47, .ld_B_A),
   (0x48, .ld_C_B), (0x49, .ld_C_C), (0x4A, .ld_C_D), (0x4B, .ld_C_E),
   (0x4C, .ld_C_H), (0x4D, .ld_C_L), (0x4E, .ld_C_mHL), (0x4F, .ld_C_A),
   (0x50, .ld_D_B), (0x51, .ld_D_C), (0x52, .ld_D_D), (0x53, .ld_D_E),
   (0x54, .ld_D_H), (0x55, .ld_D_L), (0x56, .ld_D_mHL), (0x57, .ld_D_A),
   (0x58, .ld_E_B), (0x59, .ld_E_C), (0x5A, .ld_E_D), (0x5B, .ld_E_E),
   (0x5C, .ld_E_H), (0x5D, .ld_E_L), (0x5E, .ld_E_mHL), (0x5F, .ld_E_A),
   (0x60, .ld_H_B), (0x61, .ld_H_C), (0x62, .ld_H_D), (0x63, .ld_H_E),
   (0x64, .ld_H_H), (0x65, .ld_H_L), (0x66, .ld_H_mHL), (0x67, .ld_H_A),
   (0x68, .ld_L_B), (0x69, .ld_L_C), (0x6A, .ld_L_D), (0x6B, .ld_L_E),
   (0x6C, .ld_L_H), (0x6D, .ld_L_L), (0x6E, .ld_L_mHL), (0x6F, .ld_L_A),
   (0x70, .ld_mHL_B), (0x71, .ld_mHL_C), (0x72, .ld_mHL_D), (0x73, .ld_mHL_E),
   (0x74, .ld_mHL_H), (0x75, .ld_mHL_L), (0x76, .halt), (0x77, .ld_mHL_A),
   (0x78, .ld_A_B), (0x79, .ld_A_C), (0x7A, .ld_A_D), (0x7B, .ld_A_E),
   (0x7C, .ld_A_H), (0x7D, .ld_A_L), (0x7E, .ld_A_mHL), (0x7F, .ld_A_A)]

theorem test_sm83Words1 : ∀ e ∈ sm83Words1, decodeSm83 e.1 0x34 0x12 = e.2 := by decide +kernel

def sm83Words2 : List (Byte × Instr) :=
  [(0x80, .add_A_B), (0x81, .add_A_C), (0x82, .add_A_D), (0x83, .add_A_E),
   (0x84, .add_A_H), (0x85, .add_A_L), (0x86, .add_A_mHL), (0x87, .add_A_A),
   (0x88, .adc_A_B), (0x89, .adc_A_C), (0x8A, .adc_A_D), (0x8B, .adc_A_E),
   (0x8C, .adc_A_H), (0x8D, .adc_A_L), (0x8E, .adc_A_mHL), (0x8F, .adc_A_A),
   (0x90, .sub_B), (0x91, .sub_C), (0x92, .sub_D), (0x93, .sub_E),
   (0x94, .sub_H), (0x95, .sub_L), (0x96, .sub_mHL), (0x97, .sub_A),
   (0x98, .sbc_A_B), (0x99, .sbc_A_C), (0x9A, .sbc_A_D), (0x9B, .sbc_A_E),
   (0x9C, .sbc_A_H), (0x9D, .sbc_A_L), (0x9E, .sbc_A_mHL), (0x9F, .sbc_A_A),
   (0xA0, .and_B), (0xA1, .and_C), (0xA2, .and_D), (0xA3, .and_E),
   (0xA4, .and_H), (0xA5, .and_L), (0xA6, .and_mHL), (0xA7, .and_A),
   (0xA8, .xor_B), (0xA9, .xor_C), (0xAA, .xor_D), (0xAB, .xor_E),
   (0xAC, .xor_H), (0xAD, .xor_L), (0xAE, .xor_mHL), (0xAF, .xor_A),
   (0xB0, .or_B), (0xB1, .or_C), (0xB2, .or_D), (0xB3, .or_E),
   (0xB4, .or_H), (0xB5, .or_L), (0xB6, .or_mHL), (0xB7, .or_A),
   (0xB8, .cp_B), (0xB9, .cp_C), (0xBA, .cp_D), (0xBB, .cp_E),
   (0xBC, .cp_H), (0xBD, .cp_L), (0xBE, .cp_mHL), (0xBF, .cp_A)]

theorem test_sm83Words2 : ∀ e ∈ sm83Words2, decodeSm83 e.1 0x34 0x12 = e.2 := by decide +kernel

def sm83Words3 : List (Byte × Instr) :=
  [(0xC0, .ret_NZ), (0xC1, .pop_BC), (0xC2, .jp_NZ_a16 0x1234), (0xC3, .jp_a16 0x1234),
   (0xC4, .call_NZ_a16 0x1234), (0xC5, .push_BC), (0xC6, .add_A_d8 0x34), (0xC7, .rst_00H),
   (0xC8, .ret_Z), (0xC9, .ret), (0xCA, .jp_Z_a16 0x1234), (0xCC, .call_Z_a16 0x1234),
   (0xCD, .call_a16 0x1234), (0xCE, .adc_A_d8 0x34), (0xCF, .rst_08H), (0xD0, .ret_NC),
   (0xD1, .pop_DE), (0xD2, .jp_NC_a16 0x1234), (0xD3, .illegal_D3), (0xD4, .call_NC_a16 0x1234),
   (0xD5, .push_DE), (0xD6, .sub_d8 0x34), (0xD7, .rst_10H), (0xD8, .ret_C),
   (0xD9, .reti), (0xDA, .jp_C_a16 0x1234), (0xDB, .illegal_DB), (0xDC, .call_C_a16 0x1234),
   (0xDD, .illegal_DD), (0xDE, .sbc_A_d8 0x34), (0xDF, .rst_18H), (0xE0, .ldh_ma8_A 0x34),
   (0xE1, .pop_HL), (0xE2, .ld_mC_A), (0xE3, .illegal_E3), (0xE4, .illegal_E4),
   (0xE5, .push_HL), (0xE6, .and_d8 0x34), (0xE7, .rst_20H), (0xE8, .add_SP_r8 0x34),
   (0xE9, .jp_HL), (0xEA, .ld_ma16_A 0x1234), (0xEB, .illegal_EB), (0xEC, .illegal_EC),
   (0xED, .illegal_ED), (0xEE, .xor_d8 0x34), (0xEF, .rst_28H), (0xF0, .ldh_A_ma8 0x34),
   (0xF1, .pop_AF), (0xF2, .ld_A_mC), (0xF3, .di), (0xF4, .illegal_F4),
   (0xF5, .push_AF), (0xF6, .or_d8 0x34), (0xF7, .rst_30H), (0xF8, .ld_HL_SPr8 0x34),
   (0xF9, .ld_SP_HL), (0xFA, .ld_A_ma16 0x1234), (0xFB, .ei), (0xFC, .illegal_FC),
   (0xFD, .illegal_FD), (0xFE, .cp_d8 0x34), (0xFF, .rst_38H)]

theorem test_sm83Words3 : ∀ e ∈ sm83Words3, decodeSm83 e.1 0x34 0x12 = e.2 := by decide +kernel

def sm83SecondTable0 : List (Byte × Instr) :=
  [(0x00, .rlc_B), (0x01, .rlc_C), (0x02, .rlc_D), (0x03, .rlc_E),
   (0x04, .rlc_H), (0x05, .rlc_L), (0x06, .rlc_mHL), (0x07, .rlc_A),
   (0x08, .rrc_B), (0x09, .rrc_C), (0x0A, .rrc_D), (0x0B, .rrc_E),
   (0x0C, .rrc_H), (0x0D, .rrc_L), (0x0E, .rrc_mHL), (0x0F, .rrc_A),
   (0x10, .rl_B), (0x11, .rl_C), (0x12, .rl_D), (0x13, .rl_E),
   (0x14, .rl_H), (0x15, .rl_L), (0x16, .rl_mHL), (0x17, .rl_A),
   (0x18, .rr_B), (0x19, .rr_C), (0x1A, .rr_D), (0x1B, .rr_E),
   (0x1C, .rr_H), (0x1D, .rr_L), (0x1E, .rr_mHL), (0x1F, .rr_A),
   (0x20, .sla_B), (0x21, .sla_C), (0x22, .sla_D), (0x23, .sla_E),
   (0x24, .sla_H), (0x25, .sla_L), (0x26, .sla_mHL), (0x27, .sla_A),
   (0x28, .sra_B), (0x29, .sra_C), (0x2A, .sra_D), (0x2B, .sra_E),
   (0x2C, .sra_H), (0x2D, .sra_L), (0x2E, .sra_mHL), (0x2F, .sra_A),
   (0x30, .swap_B), (0x31, .swap_C), (0x32, .swap_D), (0x33, .swap_E),
   (0x34, .swap_H), (0x35, .swap_L), (0x36, .swap_mHL), (0x37, .swap_A),
   (0x38, .srl_B), (0x39, .srl_C), (0x3A, .srl_D), (0x3B, .srl_E),
   (0x3C, .srl_H), (0x3D, .srl_L), (0x3E, .srl_mHL), (0x3F, .srl_A)]

theorem test_sm83SecondTable0 : ∀ e ∈ sm83SecondTable0, decodeSm83 0xCB e.1 0x12 = e.2 := by decide +kernel

def sm83SecondTable1 : List (Byte × Instr) :=
  [(0x40, .bit_0_B), (0x41, .bit_0_C), (0x42, .bit_0_D), (0x43, .bit_0_E),
   (0x44, .bit_0_H), (0x45, .bit_0_L), (0x46, .bit_0_mHL), (0x47, .bit_0_A),
   (0x48, .bit_1_B), (0x49, .bit_1_C), (0x4A, .bit_1_D), (0x4B, .bit_1_E),
   (0x4C, .bit_1_H), (0x4D, .bit_1_L), (0x4E, .bit_1_mHL), (0x4F, .bit_1_A),
   (0x50, .bit_2_B), (0x51, .bit_2_C), (0x52, .bit_2_D), (0x53, .bit_2_E),
   (0x54, .bit_2_H), (0x55, .bit_2_L), (0x56, .bit_2_mHL), (0x57, .bit_2_A),
   (0x58, .bit_3_B), (0x59, .bit_3_C), (0x5A, .bit_3_D), (0x5B, .bit_3_E),
   (0x5C, .bit_3_H), (0x5D, .bit_3_L), (0x5E, .bit_3_mHL), (0x5F, .bit_3_A),
   (0x60, .bit_4_B), (0x61, .bit_4_C), (0x62, .bit_4_D), (0x63, .bit_4_E),
   (0x64, .bit_4_H), (0x65, .bit_4_L), (0x66, .bit_4_mHL), (0x67, .bit_4_A),
   (0x68, .bit_5_B), (0x69, .bit_5_C), (0x6A, .bit_5_D), (0x6B, .bit_5_E),
   (0x6C, .bit_5_H), (0x6D, .bit_5_L), (0x6E, .bit_5_mHL), (0x6F, .bit_5_A),
   (0x70, .bit_6_B), (0x71, .bit_6_C), (0x72, .bit_6_D), (0x73, .bit_6_E),
   (0x74, .bit_6_H), (0x75, .bit_6_L), (0x76, .bit_6_mHL), (0x77, .bit_6_A),
   (0x78, .bit_7_B), (0x79, .bit_7_C), (0x7A, .bit_7_D), (0x7B, .bit_7_E),
   (0x7C, .bit_7_H), (0x7D, .bit_7_L), (0x7E, .bit_7_mHL), (0x7F, .bit_7_A)]

theorem test_sm83SecondTable1 : ∀ e ∈ sm83SecondTable1, decodeSm83 0xCB e.1 0x12 = e.2 := by decide +kernel

def sm83SecondTable2 : List (Byte × Instr) :=
  [(0x80, .res_0_B), (0x81, .res_0_C), (0x82, .res_0_D), (0x83, .res_0_E),
   (0x84, .res_0_H), (0x85, .res_0_L), (0x86, .res_0_mHL), (0x87, .res_0_A),
   (0x88, .res_1_B), (0x89, .res_1_C), (0x8A, .res_1_D), (0x8B, .res_1_E),
   (0x8C, .res_1_H), (0x8D, .res_1_L), (0x8E, .res_1_mHL), (0x8F, .res_1_A),
   (0x90, .res_2_B), (0x91, .res_2_C), (0x92, .res_2_D), (0x93, .res_2_E),
   (0x94, .res_2_H), (0x95, .res_2_L), (0x96, .res_2_mHL), (0x97, .res_2_A),
   (0x98, .res_3_B), (0x99, .res_3_C), (0x9A, .res_3_D), (0x9B, .res_3_E),
   (0x9C, .res_3_H), (0x9D, .res_3_L), (0x9E, .res_3_mHL), (0x9F, .res_3_A),
   (0xA0, .res_4_B), (0xA1, .res_4_C), (0xA2, .res_4_D), (0xA3, .res_4_E),
   (0xA4, .res_4_H), (0xA5, .res_4_L), (0xA6, .res_4_mHL), (0xA7, .res_4_A),
   (0xA8, .res_5_B), (0xA9, .res_5_C), (0xAA, .res_5_D), (0xAB, .res_5_E),
   (0xAC, .res_5_H), (0xAD, .res_5_L), (0xAE, .res_5_mHL), (0xAF, .res_5_A),
   (0xB0, .res_6_B), (0xB1, .res_6_C), (0xB2, .res_6_D), (0xB3, .res_6_E),
   (0xB4, .res_6_H), (0xB5, .res_6_L), (0xB6, .res_6_mHL), (0xB7, .res_6_A),
   (0xB8, .res_7_B), (0xB9, .res_7_C), (0xBA, .res_7_D), (0xBB, .res_7_E),
   (0xBC, .res_7_H), (0xBD, .res_7_L), (0xBE, .res_7_mHL), (0xBF, .res_7_A)]

theorem test_sm83SecondTable2 : ∀ e ∈ sm83SecondTable2, decodeSm83 0xCB e.1 0x12 = e.2 := by decide +kernel

def sm83SecondTable3 : List (Byte × Instr) :=
  [(0xC0, .set_0_B), (0xC1, .set_0_C), (0xC2, .set_0_D), (0xC3, .set_0_E),
   (0xC4, .set_0_H), (0xC5, .set_0_L), (0xC6, .set_0_mHL), (0xC7, .set_0_A),
   (0xC8, .set_1_B), (0xC9, .set_1_C), (0xCA, .set_1_D), (0xCB, .set_1_E),
   (0xCC, .set_1_H), (0xCD, .set_1_L), (0xCE, .set_1_mHL), (0xCF, .set_1_A),
   (0xD0, .set_2_B), (0xD1, .set_2_C), (0xD2, .set_2_D), (0xD3, .set_2_E),
   (0xD4, .set_2_H), (0xD5, .set_2_L), (0xD6, .set_2_mHL), (0xD7, .set_2_A),
   (0xD8, .set_3_B), (0xD9, .set_3_C), (0xDA, .set_3_D), (0xDB, .set_3_E),
   (0xDC, .set_3_H), (0xDD, .set_3_L), (0xDE, .set_3_mHL), (0xDF, .set_3_A),
   (0xE0, .set_4_B), (0xE1, .set_4_C), (0xE2, .set_4_D), (0xE3, .set_4_E),
   (0xE4, .set_4_H), (0xE5, .set_4_L), (0xE6, .set_4_mHL), (0xE7, .set_4_A),
   (0xE8, .set_5_B), (0xE9, .set_5_C), (0xEA, .set_5_D), (0xEB, .set_5_E),
   (0xEC, .set_5_H), (0xED, .set_5_L), (0xEE, .set_5_mHL), (0xEF, .set_5_A),
   (0xF0, .set_6_B), (0xF1, .set_6_C), (0xF2, .set_6_D), (0xF3, .set_6_E),
   (0xF4, .set_6_H), (0xF5, .set_6_L), (0xF6, .set_6_mHL), (0xF7, .set_6_A),
   (0xF8, .set_7_B), (0xF9, .set_7_C), (0xFA, .set_7_D), (0xFB, .set_7_E),
   (0xFC, .set_7_H), (0xFD, .set_7_L), (0xFE, .set_7_mHL), (0xFF, .set_7_A)]

theorem test_sm83SecondTable3 : ∀ e ∈ sm83SecondTable3, decodeSm83 0xCB e.1 0x12 = e.2 := by decide +kernel

/-! ## One step of each M6502 instruction: the examples of spec/40 to 43 -/

/-- The state an outcome holds. -/
def next (o : Out) : State :=
  match o with
  | .next t => t
  | .fault _ => State.reset
  | .refused _ => State.reset

/-- An N-stack session with the registers changed by `f` and the given RAM. -/
def nS (f : M6502 → M6502) (ram : Memory := []) : State :=
  { State.reset with stack := .nStack, n := { NStack.reset with cpu := f NStack.reset.cpu, ram := ram } }

/-- The flags with `I` set and the others as given. -/
def nP (n v z c : Bool) : M6502Flags := { n := n, v := v, d := false, i := true, z := z, c := c }

/-- One instruction from its bytes. -/
def nRun (op b1 b2 : Byte) (s : State) : State := next (exec (decodeM6502 op b1 b2) s)

/-- The flags as PHP would push them, with bit 4 clear: after reset 0x24. -/
def nF (t : State) : Byte := t.n.cpu.p.pack false

theorem test_lda : let t := nRun 0xA9 0x80 0 (nS id); (t.n.cpu.a, nF t, t.n.cycles) = (0x80, 0xA4, 2) := by
  decide +kernel
theorem test_ldx : let t := nRun 0xA2 0x00 0 (nS fun r => { r with x := 9 }); (t.n.cpu.x, nF t) = (0, 0x26) := by
  decide +kernel
theorem test_ldy : let t := nRun 0xA0 0x7F 0 (nS id); (t.n.cpu.y, nF t) = (0x7F, 0x24) := by decide +kernel
theorem test_sta : let t := nRun 0x8D 0x00 0x02 (nS fun r => { r with a := 0x42 })
    (t.n.ram, nF t, t.n.cycles) = ([(0x200, 0x42)], 0x24, 4) := by decide +kernel
theorem test_stx : (nRun 0x86 0x10 0 (nS fun r => { r with x := 0xFF })).n.ram = [(0x10, 0xFF)] := by decide +kernel
theorem test_sty : (nRun 0x94 0x10 0 (nS fun r => { r with y := 1, x := 2 })).n.ram = [(0x12, 1)] := by
  decide +kernel
theorem test_tax : let t := nRun 0xAA 0 0 (nS fun r => { r with x := 5 }); (t.n.cpu.x, nF t) = (0, 0x26) := by
  decide +kernel
theorem test_tay : let t := nRun 0xA8 0 0 (nS fun r => { r with a := 0x90 }); (t.n.cpu.y, nF t) = (0x90, 0xA4) := by
  decide +kernel
theorem test_txa : let t := nRun 0x8A 0 0 (nS fun r => { r with x := 1 }); (t.n.cpu.a, nF t) = (1, 0x24) := by
  decide +kernel
theorem test_tya : let t := nRun 0x98 0 0 (nS fun r => { r with a := 7 }); (t.n.cpu.a, nF t) = (0, 0x26) := by
  decide +kernel
theorem test_tsx : let t := nRun 0xBA 0 0 (nS id); (t.n.cpu.x, nF t) = (0xFD, 0xA4) := by decide +kernel
theorem test_txs : let t := nRun 0x9A 0 0 (nS fun r => { r with x := 0xFF }); (t.n.cpu.s, nF t) = (0xFF, 0x24) := by
  decide +kernel
theorem test_pha : let t := nRun 0x48 0 0 (nS fun r => { r with a := 0x12 })
    (t.n.ram, t.n.cpu.s) = ([(0x1FD, 0x12)], 0xFC) := by decide +kernel
theorem test_php : (nRun 0x08 0 0 (nS fun r => { r with p := nP false false true true })).n.ram = [(0x1FD, 0x37)] := by
  decide +kernel
theorem test_pla : let t := nRun 0x68 0 0 (nS fun r => { r with s := 0xFC, a := 9 })
    (t.n.cpu.a, nF t, t.n.cpu.s) = (0, 0x26, 0xFD) := by decide +kernel
theorem test_plp : let t := nRun 0x28 0 0 (nS (fun r => { r with s := 0xFC }) [(0x1FD, 0xFF)])
    t.n.cpu.p.pack true = 0xFF := by decide +kernel
theorem test_adc : let t := nRun 0x69 0x05 0 (nS fun r => { r with a := 0x10, p := nP false false false true })
    (t.n.cpu.a, nF t) = (0x16, 0x24) := by decide +kernel
theorem test_adc_overflow : let t := nRun 0x69 0x7F 0 (nS fun r => { r with a := 0x7F, p := nP false false false true })
    (t.n.cpu.a, nF t) = (0xFF, 0xE4) := by decide +kernel
theorem test_sbc : let t := nRun 0xE9 0x05 0 (nS fun r => { r with a := 0x05, p := nP false false false true })
    (t.n.cpu.a, nF t) = (0x00, 0x27) := by decide +kernel
theorem test_sbc_overflow : let t := nRun 0xE9 0x7F 0 (nS fun r => { r with a := 0x80, p := nP false false false true })
    (t.n.cpu.a, nF t) = (0x01, 0x65) := by decide +kernel
theorem test_and : let t := nRun 0x29 0x0F 0 (nS fun r => { r with a := 0xF0 }); (t.n.cpu.a, nF t) = (0, 0x26) := by
  decide +kernel
theorem test_ora : let t := nRun 0x09 0x80 0 (nS fun r => { r with a := 0x01 }); (t.n.cpu.a, nF t) = (0x81, 0xA4) := by
  decide +kernel
theorem test_eor : let t := nRun 0x49 0xFF 0 (nS fun r => { r with a := 0xFF }); (t.n.cpu.a, nF t) = (0, 0x26) := by
  decide +kernel
theorem test_cmp : let t := nRun 0xC9 0x40 0 (nS fun r => { r with a := 0x40 }); (t.n.cpu.a, nF t) = (0x40, 0x27) := by
  decide +kernel
theorem test_cpx : nF (nRun 0xE0 0x20 0 (nS fun r => { r with x := 0x10 })) = 0xA4 := by decide +kernel
theorem test_cpy : nF (nRun 0xC0 0x10 0 (nS fun r => { r with y := 0x20 })) = 0x25 := by decide +kernel
theorem test_bit : nF (nRun 0x24 0x10 0 (nS (fun r => { r with a := 1 }) [(0x10, 0xC0)])) = 0xE6 := by decide +kernel
theorem test_inc : let t := nRun 0xE6 0x10 0 (nS id [(0x10, 0x7F)])
    (t.n.ram, nF t, t.n.cycles) = ([(0x10, 0x80)], 0xA4, 5) := by decide +kernel
theorem test_dec : let t := nRun 0xC6 0x10 0 (nS id [(0x10, 0x01)]); (t.n.ram, nF t) = ([], 0x26) := by decide +kernel
theorem test_inx : let t := nRun 0xE8 0 0 (nS fun r => { r with x := 0xFF, p := nP false false false true })
    (t.n.cpu.x, nF t) = (0, 0x27) := by decide +kernel
theorem test_iny : let t := nRun 0xC8 0 0 (nS fun r => { r with y := 0x7F }); (t.n.cpu.y, nF t) = (0x80, 0xA4) := by
  decide +kernel
theorem test_dex : let t := nRun 0xCA 0 0 (nS id); (t.n.cpu.x, nF t) = (0xFF, 0xA4) := by decide +kernel
theorem test_dey : let t := nRun 0x88 0 0 (nS fun r => { r with y := 1 }); (t.n.cpu.y, nF t) = (0, 0x26) := by
  decide +kernel
theorem test_asl : let t := nRun 0x0A 0 0 (nS fun r => { r with a := 0x81 }); (t.n.cpu.a, nF t) = (0x02, 0x25) := by
  decide +kernel
theorem test_lsr : let t := nRun 0x4A 0 0 (nS fun r => { r with a := 0x01 }); (t.n.cpu.a, nF t) = (0, 0x27) := by
  decide +kernel
theorem test_rol : let t := nRun 0x2A 0 0 (nS fun r => { r with a := 0x80, p := nP false false false true })
    (t.n.cpu.a, nF t) = (0x01, 0x25) := by decide +kernel
theorem test_ror : let t := nRun 0x6A 0 0 (nS fun r => { r with a := 0x01 }); (t.n.cpu.a, nF t) = (0, 0x27) := by
  decide +kernel
theorem test_rol_memory : let t := nRun 0x26 0x10 0 (nS (fun r => { r with p := nP false false false true }) [(0x10, 0x80)])
    (t.n.ram, nF t, t.n.cycles) = ([(0x10, 0x01)], 0x25, 5) := by decide +kernel

/-- `PC` and the cycles of a branch from `pc` with the flags `p`. -/
def branched (op d : Byte) (pc : Word) (p : M6502Flags) : Word × Nat :=
  let t := nRun op d 0 (nS fun r => { r with pc := pc, p := p })
  (t.n.cpu.pc, t.n.cycles)

theorem test_bcc : branched 0x90 0x02 0x8000 (nP false false false false) = (0x8004, 3) := by decide +kernel
theorem test_bcs : branched 0xB0 0x01 0x80FD (nP false false false true) = (0x8100, 4) := by decide +kernel
theorem test_beq : branched 0xF0 0xFE 0x8000 (nP false false true false) = (0x8000, 3) := by decide +kernel
theorem test_bne : branched 0xD0 0xFC 0x8100 (nP false false false false) = (0x80FE, 4) := by decide +kernel
theorem test_bmi : branched 0x30 0x10 0x8000 (nP false false false false) = (0x8002, 2) := by decide +kernel
theorem test_bpl : branched 0x10 0x7F 0x8000 (nP false false false false) = (0x8081, 3) := by decide +kernel
theorem test_bvc : branched 0x50 0x80 0x8000 (nP false false false false) = (0x7F82, 4) := by decide +kernel
theorem test_bvs : branched 0x70 0x05 0x8000 (nP false false false false) = (0x8002, 2) := by decide +kernel

theorem test_jmp : (nRun 0x4C 0x00 0x90 (nS id)).n.cpu.pc = 0x9000 := by decide +kernel
theorem test_jmp_indirect :
    (nRun 0x6C 0xFF 0x02 (nS id [(0x200, 0x12), (0x2FF, 0x34), (0x300, 0x56)])).n.cpu.pc = 0x1234 := by decide +kernel
theorem test_jsr : let t := nRun 0x20 0x34 0x12 (nS fun r => { r with pc := 0x8000 })
    (t.n.ram, t.n.cpu.s, t.n.cpu.pc) = ([(0x1FC, 0x02), (0x1FD, 0x80)], 0xFB, 0x1234) := by decide +kernel
theorem test_rts : let t := nRun 0x60 0 0 (nS (fun r => { r with s := 0xFB }) [(0x1FC, 0x02), (0x1FD, 0x80)])
    (t.n.cpu.pc, t.n.cpu.s) = (0x8003, 0xFD) := by decide +kernel
theorem test_rti :
    let t := nRun 0x40 0 0 (nS (fun r => { r with s := 0xFA }) [(0x1FB, 0x21), (0x1FC, 0x05), (0x1FD, 0x80)])
    (nF t, t.n.cpu.pc, t.n.cpu.s) = (0x21, 0x8005, 0xFD) := by decide +kernel

/-- The session of the examples of R274 and R520: all flags clear, and the vectors at 0xFFFA to 0xFFFF. -/
def nVectors (pc : Word) (nmi irq : Bool) : State :=
  let s := nS fun r => { r with
    pc := pc, nmiPending := nmi, irqLine := irq
    p := { n := false, v := false, d := false, i := false, z := false, c := false } }
  { s with n := { s.n with cart := { s.n.cart with
    prgRom := [(0x3FFB, 0x90), (0x3FFE, 0x34), (0x3FFF, 0x90)] } } }

theorem test_brk : let t := nRun 0x00 0 0 (nVectors 0x8000 false false)
    (t.n.ram, t.n.cpu.s, nF t, t.n.cpu.pc) =
      ([(0x1FB, 0x30), (0x1FC, 0x02), (0x1FD, 0x80)], 0xFA, 0x24, 0x9034) := by decide +kernel
theorem test_nmi : let t := next (cpuStep (nVectors 0x8123 true true))
    (t.n.ram, t.n.cpu.pc, nF t, t.n.cpu.nmiPending, t.n.cycles) =
      ([(0x1FB, 0x20), (0x1FC, 0x23), (0x1FD, 0x81)], 0x9000, 0x24, false, 7) := by decide +kernel
theorem test_irq : let t := next (cpuStep (nVectors 0x8123 false true))
    (t.n.cpu.pc, nF t, t.n.cpu.irqLine, t.n.cycles) = (0x9034, 0x24, true, 7) := by decide +kernel

theorem test_clc : nF (nRun 0x18 0 0 (nS fun r => { r with p := nP false false false true })) = 0x24 := by decide +kernel
theorem test_sec : nF (nRun 0x38 0 0 (nS id)) = 0x25 := by decide +kernel
theorem test_cli : nF (nRun 0x58 0 0 (nS id)) = 0x20 := by decide +kernel
theorem test_sei : nF (nRun 0x78 0 0 (nVectors 0 false false)) = 0x24 := by decide +kernel
theorem test_cld : nF (nRun 0xD8 0 0 (nRun 0xF8 0 0 (nS id))) = 0x24 := by decide +kernel
theorem test_sed : nF (nRun 0xF8 0 0 (nS id)) = 0x2C := by decide +kernel
theorem test_clv : nF (nRun 0xB8 0 0 (nS fun r => { r with p := nP false true false false })) = 0x24 := by decide +kernel
theorem test_nop_6502 : (nRun 0xEA 0 0 (nS id)).n.cpu = { (nS id).n.cpu with pc := 1 } := by decide +kernel
theorem test_ill : let t := nRun 0xA7 0 0 (nS fun r => { r with pc := 0x8000 })
    (t.n.cpu.faulted, t.n.cpu.faultInfo, t.n.cpu.pc, t.n.cycles) =
      (true, some { cause := .illegalOpcode 0xA7, pc := 0x8000 }, 0x8000, 0) := by decide +kernel

/-! The corners of the indexed modes (R147, R150, R153, R154). -/

theorem test_zpx_wraps : ((nS fun r => { r with x := 0xFF }).n.resolve (.zpx 0x80)).ea = 0x007F := by decide +kernel
theorem test_abx_crosses : let e := (nS fun r => { r with x := 1 }).n.resolve (.abx 0x02FF)
    (e.ea, e.crossed) = (0x0300, true) := by decide +kernel
theorem test_izx_pointer_wraps :
    ((nS id [(0x00, 0x12), (0xFF, 0x34), (0x100, 0x56)]).n.resolve (.izx 0xFF)).ea = 0x1234 := by decide +kernel
theorem test_izy_crosses :
    let e := (nS (fun r => { r with y := 1 }) [(0x10, 0xFF), (0x11, 0x02)]).n.resolve (.izy 0x10)
    (e.ea, e.crossed) = (0x0300, true) := by decide +kernel

/-! ## One step of the SM83's instructions: the examples of spec/44 to 48 -/

/-- A G-stack session with the registers changed by `f` and the given work RAM and high RAM. -/
def gS (f : Sm83 → Sm83) (wram : Memory := []) (hram : Memory := []) : State :=
  { State.reset with stack := .gStack, g := { GStack.reset with
      cpu := f GStack.reset.cpu, mem := { GStack.reset.mem with wram := wram, hram := hram } } }

/-- One instruction from its bytes. -/
def gRun (op b1 b2 : Byte) (s : State) : State := next (exec (decodeSm83 op b1 b2) s)

/-- `F` as a byte: after reset 0xB0. -/
def gF (t : State) : Byte := t.g.cpu.f.toByte

/-- The flags of a byte. -/
def F (v : Byte) : Sm83Flags := Sm83Flags.ofByte v

theorem test_ld_r_r : (gRun 0x78 0 0 (gS fun r => { r with b := 0x12 })).g.cpu.a = 0x12 := by decide +kernel
theorem test_ld_r_d8 : (gRun 0x3E 0x42 0 (gS id)).g.cpu.a = 0x42 := by decide +kernel
theorem test_ld_r_mHL : (gRun 0x66 0 0 (gS (fun r => { r with h := 0xC0, l := 0x00 }) [(0, 0x99)])).g.cpu.h = 0x99 := by
  decide +kernel
theorem test_ld_mHL_r : (gRun 0x77 0 0 (gS fun r => { r with h := 0xC0, l := 0, a := 0x5A })).g.mem.wram = [(0, 0x5A)] := by
  decide +kernel
theorem test_ld_mHL_d8 : (gRun 0x36 0xFF 0 (gS fun r => { r with h := 0xC0, l := 0x10 })).g.mem.wram = [(0x10, 0xFF)] := by
  decide +kernel
theorem test_ld_A_mBC : (gRun 0x0A 0 0 (gS (fun r => { r with b := 0xC0, c := 1 }) [(1, 7)])).g.cpu.a = 7 := by
  decide +kernel
theorem test_ld_A_mDE : let s := gS fun r => { r with d := 0x01, e := 0x04 }
    (gRun 0x1A 0 0 { s with g := { s.g with cart := { s.g.cart with rom := [(0x104, 0xCE)] } } }).g.cpu.a = 0xCE := by
  decide +kernel
theorem test_ld_mBC_A : (gRun 0x02 0 0 (gS fun r => { r with b := 0xC0, c := 2, a := 0x11 })).g.mem.wram = [(2, 0x11)] := by
  decide +kernel
theorem test_ld_mDE_A_blocked : let s := gS fun r => { r with d := 0x80, e := 0, a := 0xFF }
    (gRun 0x12 0 0 { s with g := { s.g with ppu := { s.g.ppu with mode := .transfer } } }).g.mem.vram = [] := by
  decide +kernel
theorem test_ld_A_ma16 : let s := gS id
    (gRun 0xFA 0x44 0xFF { s with g := { s.g with ppu := { s.g.ppu with ly := 0x90 } } }).g.cpu.a = 0x90 := by
  decide +kernel
theorem test_ld_ma16_A : let s := gS fun r => { r with a := 0x03 }
    (gRun 0xEA 0x00 0x20 { s with g := { s.g with cart := { s.g.cart with type := .mbc1 } } }).g.mbc.bankLo = 3 := by
  decide +kernel
theorem test_ldh_A_ma8 : (gRun 0xF0 0x00 0 (gS id)).g.cpu.a = 0xFF := by decide +kernel
theorem test_ldh_ma8_A : (gRun 0xE0 0x07 0 (gS fun r => { r with a := 5 })).g.timer.tac = 5 := by decide +kernel
theorem test_ld_A_mC : (gRun 0xF2 0 0 (gS fun r => { r with c := 0x44 })).g.cpu.a = 0 := by decide +kernel
theorem test_ld_mC_A : (gRun 0xE2 0 0 (gS fun r => { r with c := 0x80, a := 0x3C })).g.mem.hram = [(0, 0x3C)] := by
  decide +kernel
theorem test_ld_mHLinc_A : let t := gRun 0x22 0 0 (gS fun r => { r with h := 0xC0, l := 0, a := 1 })
    (t.g.mem.wram, t.g.cpu.h, t.g.cpu.l) = ([(0, 1)], 0xC0, 0x01) := by decide +kernel
theorem test_ld_A_mHLinc : let t := gRun 0x2A 0 0 (gS (fun r => { r with h := 0xC0, l := 0xFF }) [(0xFF, 9)])
    (t.g.cpu.a, t.g.cpu.h, t.g.cpu.l) = (9, 0xC1, 0x00) := by decide +kernel
theorem test_ld_mHLdec_A : let t := gRun 0x32 0 0 (gS fun r => { r with h := 0x9F, l := 0xFF, a := 7 })
    (t.g.mem.vram, t.g.cpu.h, t.g.cpu.l) = ([(0x1FFF, 7)], 0x9F, 0xFE) := by decide +kernel
theorem test_ld_A_mHLdec : let t := gRun 0x3A 0 0 (gS (fun r => { r with h := 0xC0, l := 0x01 }) [(1, 0x77)])
    (t.g.cpu.a, t.g.cpu.h, t.g.cpu.l) = (0x77, 0xC0, 0x00) := by decide +kernel

theorem test_ld_rr_d16 : let t := gRun 0x21 0x34 0x12 (gS id); (t.g.cpu.h, t.g.cpu.l) = (0x12, 0x34) := by
  decide +kernel
theorem test_ld_ma16_SP : (gRun 0x08 0x00 0xC1 (gS fun r => { r with sp := 0xFFF8 })).g.mem.wram =
    [(0x100, 0xF8), (0x101, 0xFF)] := by decide +kernel
theorem test_ld_SP_HL : (gRun 0xF9 0 0 (gS fun r => { r with h := 0xD0, l := 0 })).g.cpu.sp = 0xD000 := by decide +kernel
theorem test_ld_HL_SPr8 : let t := gRun 0xF8 0x02 0 (gS fun r => { r with sp := 0xFFF8 })
    (t.g.cpu.h, t.g.cpu.l, gF t) = (0xFF, 0xFA, 0x00) := by decide +kernel
theorem test_push : let t := gRun 0xC5 0 0 (gS fun r => { r with b := 0x12, c := 0x34 })
    (t.g.mem.hram, t.g.cpu.sp) = ([(0x7C, 0x34), (0x7D, 0x12)], 0xFFFC) := by decide +kernel
theorem test_pop_AF : let t := gRun 0xF1 0 0 (gS (fun r => { r with sp := 0xFFFC }) [] [(0x7C, 0xFF), (0x7D, 0x12)])
    (t.g.cpu.a, gF t, t.g.cpu.sp) = (0x12, 0xF0, 0xFFFE) := by decide +kernel

/-- `A` and `F` after an operation with an immediate. -/
def aluRun (op d a f : Byte) : Byte × Byte :=
  let t := gRun op d 0 (gS fun r => { r with a := a, f := F f })
  (t.g.cpu.a, gF t)

theorem test_add : aluRun 0xC6 0xC6 0x3A 0x00 = (0x00, 0xB0) := by decide +kernel
theorem test_adc_sm83 : aluRun 0xCE 0x3B 0xE1 0x10 = (0x1D, 0x10) := by decide +kernel
theorem test_sub : aluRun 0xD6 0x0F 0x3E 0x00 = (0x2F, 0x60) := by decide +kernel
theorem test_sbc_sm83 : aluRun 0xDE 0x0F 0x10 0x10 = (0x00, 0xE0) := by decide +kernel
theorem test_and_sm83 : aluRun 0xE6 0x0F 0x5A 0x00 = (0x0A, 0x20) := by decide +kernel
theorem test_xor : aluRun 0xEE 0x0F 0xFF 0x00 = (0xF0, 0x00) := by decide +kernel
theorem test_or : aluRun 0xF6 0x00 0x00 0x00 = (0x00, 0x80) := by decide +kernel
theorem test_cp : aluRun 0xFE 0x40 0x3C 0x00 = (0x3C, 0x50) := by decide +kernel
theorem test_sbc_mHL :
    let t := gRun 0x9E 0 0 (gS (fun r => { r with h := 0xC0, l := 0, a := 0x00, f := F 0x10 }) [(0, 0xFF)])
    (t.g.cpu.a, gF t, t.g.cycles) = (0x00, 0xF0, 8) := by decide +kernel
theorem test_inc_r : let t := gRun 0x04 0 0 (gS fun r => { r with b := 0x0F, f := F 0x10 })
    (t.g.cpu.b, gF t) = (0x10, 0x30) := by decide +kernel
theorem test_inc_mHL : let t := gRun 0x34 0 0 (gS (fun r => { r with h := 0xC0, l := 0, f := F 0 }) [(0, 0xFF)])
    (t.g.mem.wram, gF t, t.g.cycles) = ([], 0xA0, 12) := by decide +kernel
theorem test_dec_r : let t := gRun 0x05 0 0 (gS fun r => { r with b := 1, f := F 0 })
    (t.g.cpu.b, gF t) = (0, 0xC0) := by decide +kernel
theorem test_dec_mHL : let t := gRun 0x35 0 0 (gS fun r => { r with h := 0xC0, l := 0, f := F 0 })
    (t.g.mem.wram, gF t) = ([(0, 0xFF)], 0x60) := by decide +kernel
theorem test_daa : aluRun 0x27 0 0x3C 0x00 = (0x42, 0x00) := by decide +kernel
theorem test_cpl : aluRun 0x2F 0 0x35 0x00 = (0xCA, 0x60) := by decide +kernel
theorem test_scf : aluRun 0x37 0 0x01 0xE0 = (0x01, 0x90) := by decide +kernel
theorem test_ccf : aluRun 0x3F 0 0x01 0x70 = (0x01, 0x00) := by decide +kernel
theorem test_rlca : aluRun 0x07 0 0x85 0x00 = (0x0B, 0x10) := by decide +kernel
theorem test_rla : aluRun 0x17 0 0x95 0x10 = (0x2B, 0x10) := by decide +kernel
theorem test_rrca : aluRun 0x0F 0 0x3B 0x00 = (0x9D, 0x10) := by decide +kernel
theorem test_rra : aluRun 0x1F 0 0x81 0x00 = (0x40, 0x10) := by decide +kernel
theorem test_add_HL_rr :
    let t := gRun 0x09 0 0 (gS fun r => { r with h := 0x8A, l := 0x23, b := 0x06, c := 0x05, f := F 0x80 })
    (t.g.cpu.h, t.g.cpu.l, gF t) = (0x90, 0x28, 0xA0) := by decide +kernel
theorem test_inc_rr : let t := gRun 0x13 0 0 (gS fun r => { r with d := 0x23, e := 0x5F })
    (t.g.cpu.d, t.g.cpu.e, gF t) = (0x23, 0x60, 0xB0) := by decide +kernel
theorem test_dec_rr : let t := gRun 0x0B 0 0 (gS fun r => { r with b := 0x01, c := 0x00 })
    (t.g.cpu.b, t.g.cpu.c, gF t) = (0x00, 0xFF, 0xB0) := by decide +kernel
theorem test_add_SP_r8 : let t := gRun 0xE8 0x08 0 (gS fun r => { r with sp := 0xFFF8 })
    (t.g.cpu.sp, gF t) = (0x0000, 0x30) := by decide +kernel

/-- `PC` and the cycles of a control transfer from `pc`. -/
def moved (op b1 b2 : Byte) (pc : Word) (f : Byte) : Word × Nat :=
  let t := gRun op b1 b2 (gS (fun r => { r with pc := pc, sp := 0xFFFC, h := 0x40, l := 0, f := F f })
    [] [(0x7C, 0x03), (0x7D, 0xC0)])
  (t.g.cpu.pc, t.g.cycles)

theorem test_jp : moved 0xC3 0x50 0x01 0xC000 0x00 = (0x0150, 16) := by decide +kernel
theorem test_jp_cc : moved 0xC2 0x00 0xD0 0xC000 0x80 = (0xC003, 12) := by decide +kernel
theorem test_jp_HL : moved 0xE9 0 0 0xC000 0x00 = (0x4000, 4) := by decide +kernel
theorem test_jr : moved 0x18 0xFB 0 0xC000 0x00 = (0xBFFD, 12) := by decide +kernel
theorem test_jr_cc : moved 0x20 0xFA 0 0xC004 0x00 = (0xC000, 12) := by decide +kernel
theorem test_call : let t := gRun 0xCD 0x34 0x12 (gS fun r => { r with pc := 0xC000 })
    (t.g.mem.hram, t.g.cpu.sp, t.g.cpu.pc) = ([(0x7C, 0x03), (0x7D, 0xC0)], 0xFFFC, 0x1234) := by decide +kernel
theorem test_call_cc : moved 0xDC 0x00 0x40 0xC000 0x00 = (0xC003, 12) := by decide +kernel
theorem test_ret : moved 0xC9 0 0 0x1234 0x00 = (0xC003, 16) := by decide +kernel
theorem test_ret_cc : moved 0xC8 0 0 0x1234 0x80 = (0xC003, 20) := by decide +kernel
theorem test_ret_cc_not_taken : moved 0xC8 0 0 0x1234 0x00 = (0x1235, 8) := by decide +kernel
theorem test_reti : let t := gRun 0xD9 0 0 (gS (fun r => { r with sp := 0xFFFC }) [] [(0x7C, 0x03), (0x7D, 0xC0)])
    (t.g.cpu.pc, t.g.cpu.sp, t.g.cpu.ime) = (0xC003, 0xFFFE, true) := by decide +kernel
theorem test_rst : let t := gRun 0xEF 0 0 (gS fun r => { r with pc := 0xC000 })
    (t.g.mem.hram, t.g.cpu.sp, t.g.cpu.pc) = ([(0x7C, 0x01), (0x7D, 0xC0)], 0xFFFC, 0x0028) := by decide +kernel
theorem test_nop_sm83 : (gRun 0x00 0 0 (gS id)).g.cpu = { (gS id).g.cpu with pc := 0x0101 } := by decide +kernel
theorem test_halt : let t := gRun 0x76 0 0 (gS id); (t.g.cpu.halted, t.g.cpu.pc, t.g.cycles) = (true, 0x0101, 4) := by
  decide +kernel
theorem test_stop : let t := gRun 0x10 0x00 0 (gS fun r => { r with pc := 0xC000 })
    (t.g.cpu.stopped, t.g.cpu.pc, t.g.cycles) = (true, 0xC002, 4) := by decide +kernel
theorem test_di : let t := gRun 0xF3 0 0 (gS fun r => { r with ime := true, imeDelay := 1 })
    (t.g.cpu.ime, t.g.cpu.imeDelay) = (false, 0) := by decide +kernel
theorem test_ei : let t := gRun 0xFB 0 0 (gS id); (t.g.cpu.ime, t.g.cpu.imeDelay) = (false, 1) := by decide +kernel
theorem test_ei_then_nop : let t := gRun 0x00 0 0 (gRun 0xFB 0 0 (gS id))
    (t.g.cpu.ime, t.g.cpu.imeDelay) = (true, 0) := by decide +kernel
theorem test_illegal : let t := gRun 0xDD 0 0 (gS fun r => { r with pc := 0xC000, imeDelay := 1 })
    (t.g.cpu.faultInfo, t.g.cpu.pc, t.g.cpu.imeDelay, t.g.cycles) =
      (some { cause := .illegalOpcode 0xDD, pc := 0xC000 }, 0xC000, 1, 0) := by decide +kernel

theorem test_rlc : let t := gRun 0xCB 0x00 0 (gS fun r => { r with b := 0x85 }); (t.g.cpu.b, gF t) = (0x0B, 0x10) := by
  decide +kernel
theorem test_rlc_mHL : let t := gRun 0xCB 0x06 0 (gS fun r => { r with h := 0xC0, l := 0 })
    (gF t, t.g.cycles) = (0x80, 16) := by decide +kernel
theorem test_rrc : let t := gRun 0xCB 0x09 0 (gS fun r => { r with c := 0x01 }); (t.g.cpu.c, gF t) = (0x80, 0x10) := by
  decide +kernel
theorem test_rl : let t := gRun 0xCB 0x15 0 (gS fun r => { r with l := 0x80, f := F 0 })
    (t.g.cpu.l, gF t) = (0, 0x90) := by decide +kernel
theorem test_rr : let t := gRun 0xCB 0x1F 0 (gS fun r => { r with a := 0x01, f := F 0 })
    (t.g.cpu.a, gF t) = (0, 0x90) := by decide +kernel
theorem test_sla : let t := gRun 0xCB 0x22 0 (gS fun r => { r with d := 0xFF }); (t.g.cpu.d, gF t) = (0xFE, 0x10) := by
  decide +kernel
theorem test_sra : let t := gRun 0xCB 0x2F 0 (gS fun r => { r with a := 0x8A }); (t.g.cpu.a, gF t) = (0xC5, 0x00) := by
  decide +kernel
theorem test_swap : let t := gRun 0xCB 0x37 0 (gS fun r => { r with a := 0xF1 }); (t.g.cpu.a, gF t) = (0x1F, 0x00) := by
  decide +kernel
theorem test_srl : let t := gRun 0xCB 0x3F 0 (gS fun r => { r with a := 0xFF }); (t.g.cpu.a, gF t) = (0x7F, 0x10) := by
  decide +kernel
theorem test_bit_sm83 : let t := gRun 0xCB 0x7F 0 (gS fun r => { r with a := 0x80, f := F 0x10 })
    (t.g.cpu.a, gF t) = (0x80, 0x30) := by decide +kernel
theorem test_res : let t := gRun 0xCB 0xBF 0 (gS fun r => { r with a := 0x80 }); (t.g.cpu.a, gF t) = (0, 0xB0) := by
  decide +kernel
theorem test_set_mHL : let t := gRun 0xCB 0xDE 0 (gS fun r => { r with h := 0xC0, l := 0 })
    (t.g.mem.wram, t.g.cycles) = ([(0, 0x08)], 16) := by decide +kernel

/-! ## Interrupts, the bus and the devices: the examples of spec/20 and spec/60 -/

/-- A G-stack session with `IE` and `IF`. -/
def gIrq (ie rq : BitVec 5) (f : Sm83 → Sm83) : State :=
  let s := gS f
  { s with g := { s.g with irq := { ifReg := rq, ieReg := ie } } }

theorem test_interrupt_sm83 : let t := next (cpuStep (gIrq 0x05 0x05 fun r => { r with pc := 0x0150, ime := true }))
    (t.g.mem.hram, t.g.cpu.pc, t.g.irq.ifReg, t.g.cpu.ime, t.g.cycles) =
      ([(0x7C, 0x50), (0x7D, 0x01)], 0x0040, 0x04, false, 20) := by decide +kernel
theorem test_halt_stalls : let t := next (cpuStep (gIrq 0x04 0x00 fun r => { r with halted := true, ime := true }))
    (t.g.cpu.halted, t.g.cpu.pc, t.g.cycles) = (true, 0x0100, 4) := by decide +kernel
theorem test_reset_reads :
    ([0xFF00, 0xFF04, 0xFF07, 0xFF0F, 0xFFFF, 0xFF40, 0xFF41, 0xFF46, 0xFF47] : List Word).map
        (fun a => (GStack.reset.read a).1) =
      [0xFF, 0xAB, 0xF8, 0xE1, 0xE0, 0x91, 0x86, 0xFF, 0xFC] := by decide +kernel
theorem test_mirror : ((NStack.reset.write 0x1FFF 0x5C).ram, (GStack.reset.write 0xFDFF 0x12).mem.wram) =
    ([(0x7FF, 0x5C)], [(0x1DFF, 0x12)]) := by decide +kernel
theorem test_joypad : let g := GStack.reset.setButtons 0x11
    (((g.write 0xFF00 0x20).read 0xFF00).1, ((g.write 0xFF00 0x10).read 0xFF00).1) = (0xEE, 0xDE) := by decide +kernel
theorem test_mbc1_zero_adjustment : let g := { GStack.reset with cart := { GStack.reset.cart with
      type := .mbc1, romBanks := 8, rom := [(0x4000, 0x01)] } }
    ((g.write 0x2000 0xE0).read 0x4000).1 = 0x01 := by decide +kernel
theorem test_timer_reload :
    let t : GTimer := { div16 := 0x000F, tima := 0xFF, tma := 0x7A, tac := 0b101, ovfDelay := 0 }
    let q : GIrq := { ifReg := 0, ieReg := 0 }
    ((t.advance 4 q).1.tima, (t.advance 5 q).1.tima, (t.advance 5 q).2.ifReg) = (0x00, 0x7A, 0b00100) := by
  decide +kernel
theorem test_mode_3_after_80_dots : let p := GPpu.advance [] [] 80 GStack.reset.ppu GStack.reset.irq
    (p.1.mode, p.1.dot, p.2.ifReg) = (.transfer, 80, 0b00001) := by decide +kernel
theorem test_dma_unit : let g := { GStack.reset with
      mem := { GStack.reset.mem with wram := [(0x100, 0x77)] }, dma := { active := true, src := 0xC1, index := 0 } }
    (g.dmaArm.mem.oam, g.dmaArm.dma.index, g.dmaArm.cycles) = ([(0, 0x77)], 1, 4) := by decide +kernel
theorem test_sprite_order :
    let p := { GStack.reset.ppu with lcdc := 0x93 }
    p.selectSprites [(0, 0x10), (1, 0x20), (4, 0x10), (5, 0x08), (8, 0x10), (9, 0x20)] 0 = [1, 0, 2] := by
  decide +kernel
/-- A flipped sprite of tile 3, by hand from R597: bit 0 of the high plane is column 0 under X flip. -/
theorem test_sprite_pixel_x_flip :
    let p := { GStack.reset.ppu with lcdc := 0x93 }
    let oam : Memory := [(0, 0x10), (1, 0x08), (2, 0x03), (3, 0x30)]
    p.spritePixel [(48, 0x80), (49, 0x01)] oam 0 0 [0] = some { c := 2, pal := true, behind := false } := by
  decide +kernel
/-- A tall sprite upside down: the tile number 3 is made 2, line 0 is row 15; index 0 shows the sprite below. -/
theorem test_sprite_pixel_tall :
    let p := { GStack.reset.ppu with lcdc := 0x97 }
    let oam : Memory :=
      [(0, 0x10), (1, 0x08), (2, 0x09), (4, 0x10), (5, 0x08), (6, 0x03), (7, 0xC0)]
    p.spritePixel [(62, 0x80)] oam 0 0 [0, 1] = some { c := 1, pal := false, behind := true } := by decide +kernel
theorem test_shortest_instruction : (gRun 0x00 0 0 (gS id)).g.cycles = Config.gCycle.shortest := by decide +kernel

/-! A word placed where the next step fetches runs. -/

theorem test_fetch_word : (next (step (State.reset.withFetchWord 8 0x3C))).g.cpu.a = 0x02 := by decide +kernel
theorem test_fetch_word_second_table : (next (step (State.reset.withFetchWord 16 0xCB37))).g.cpu.a = 0x10 := by
  decide +kernel
theorem test_decode_table_word : decodeTableWord 16 0xCB37 = some .swap_A ∧ decodeTableWord 8 0x3C = some .inc_A := by
  decide +kernel

/-! ## Witnesses: for every statement with hypotheses, a state and operands that meet them -/

/-- An N-stack that no test above uses: `S` at 0x80, a byte of RAM, the last bank of CNROM. -/
def wN : NStack :=
  { NStack.reset with
    cpu := { NStack.reset.cpu with s := 0x80 }
    ram := [(0x7FF, 0x11)], prgRam := [(0x1FFF, 0x22)]
    cart := { NStack.reset.cart with mapper := .cnrom, prgUnits := 2, prgRom := [(0x7FFD, 0x80)] } }

theorem witness_N_invariant : wN.Inv :=
  ⟨⟨by decide +kernel, by decide +kernel⟩, ⟨by decide +kernel, by decide +kernel⟩,
    ⟨by decide +kernel, by decide +kernel⟩, by decide +kernel, by decide +kernel, by decide +kernel, rfl,
    by decide +kernel, by decide +kernel⟩

/-- A picture unit with the LCD on, at line `ly` and dot `dot` in the mode that belongs to them. -/
def wP (ly dot : Nat) : GPpu :=
  { GStack.reset.ppu with
    ly := BitVec.ofNat 8 ly, dot := dot, mode := PpuMode.at ly dot, statSel := 0b1111, lcdc := 0xE7
    lineSprites := [39], framebuffer := [(143, List.replicate 160 1)] }

theorem witness_P_invariant (ly dot : Nat) (hl : ly < 154) (hd : dot < 456) : (wP ly dot).Inv := by
  have h : (BitVec.ofNat 8 ly).toNat = ly := by simp only [BitVec.toNat_ofNat]; omega
  have hp : Picture.Ok [(143, List.replicate 160 1)] :=
    ⟨by decide, by decide, fun e he => by rw [List.mem_singleton.1 he]; rfl⟩
  exact
    { ly := by show (BitVec.ofNat 8 ly).toNat < 154; omega
      dot := hd
      modeOn := fun _ => by show PpuMode.at ly dot = PpuMode.at (BitVec.ofNat 8 ly).toNat dot; rw [h]
      modeOff := fun h => absurd h (by decide : ¬ ((0xE7 : Byte).getLsbD 7 = false))
      sprites := by show ([39] : List Nat).length ≤ 10; decide
      spriteIndex := by show ∀ i ∈ ([39] : List Nat), i < 40; decide
      framebuffer := hp
      frontBuffer := ⟨rfl, rfl, fun e he => nomatch he⟩ }

/-- The picture unit switched off. -/
def wPOff : GPpu := { GStack.reset.ppu with lcdc := 0x11, mode := .hblank }

theorem witness_POff_invariant : wPOff.Inv :=
  { ly := by decide, dot := by decide, modeOn := fun h => absurd h (by decide), modeOff := fun _ => ⟨rfl, rfl, rfl, rfl⟩
    sprites := by decide, spriteIndex := by decide, framebuffer := ⟨rfl, rfl, fun e he => nomatch he⟩
    frontBuffer := ⟨rfl, rfl, fun e he => nomatch he⟩ }

/-- A G-stack with an MBC1 cartridge, 8 KiB of enabled RAM, the picture unit `p`, and what `f` changes of the
registers. -/
def wG (p : GPpu) (f : Sm83 → Sm83) (d : GDma) (wram : Memory) : GStack :=
  { GStack.reset with
    cpu := f GStack.reset.cpu, ppu := p, dma := d
    mem := { GStack.reset.mem with wram := wram }
    mbc := { GStack.reset.mbc with ramEnable := true }
    cart := { type := .mbc1, romBanks := 4, ramSize := 0x2000, battery := true, rom := [(0xFFFF, 1)] } }

/-- No OAM DMA. -/
def noDma : GDma := { active := false, src := 0, index := 0 }

theorem witness_G_invariant (p : GPpu) (f : Sm83 → Sm83) (d : GDma) (wram : Memory) (hp : p.Inv) (hw : wram.Ok 0x2000)
    (hd : d.index < 160) (hi : (f GStack.reset.cpu).imeDelay ≤ 2)
    (hf : (f GStack.reset.cpu).faultInfo.isSome = (f GStack.reset.cpu).faulted) : (wG p f d wram).Inv :=
  { vram := ⟨rfl, rfl⟩, wram := hw, oam := ⟨rfl, rfl⟩, hram := ⟨rfl, rfl⟩, eram := ⟨rfl, rfl⟩
    rom := ⟨by show Memory.wf [(0xFFFF, 1)] = true; decide +kernel,
      by show Memory.below [(0xFFFF, 1)] (4 * 0x4000) = true; decide +kernel⟩
    romBanks := by show 2 ≤ 4; decide
    bankLo := by show (1 : BitVec 5) ≠ 0; decide
    dmaIndex := by show d.index ≤ 160; omega
    dmaActive := fun _ => hd
    imeDelay := hi, ovfDelay := Nat.zero_le _, ppu := hp, fault := hf
    carry := Nat.zero_le _
    count := by show 0 < 70224; decide }

/-- A session of one of the stacks. -/
def wS (st : StackId) (g : GStack) : State := { stack := st, n := wN, g := g }

/-- The G-stack session at 0xC000 with `code` there and nothing to service. -/
def wCode (code : List Byte) : GStack :=
  wG (wP 0 0) (fun r => { r with pc := 0xC000 }) noDma (Memory.ofBytes code)

theorem witness_invariant (st : StackId) (b : Byte) : (wS st (wCode [b])).Inv := by
  refine ⟨witness_N_invariant, witness_G_invariant (wP 0 0) (fun r => { r with pc := 0xC000 }) noDma _
    (witness_P_invariant 0 0 (by decide) (by decide)) ?_ (by decide) (by decide) rfl⟩
  revert b; unfold Memory.Ok; decide +kernel

theorem witness_DecodeOfEncodeGivesBack : WellFormed (.ldx (.aby 0xFFFF)) = true ∧ WellFormed (.ill 0xFF) = true ∧
    WellFormed (.ld_HL_SPr8 0xFF) = true := by decide
theorem witness_EncodeOfDecodeGivesBack :
    decode .nStack [0xA9, 0x80, 0x01] = .ok (.lda (.imm 0x80), [0x01]) ∧
    decode .gStack [0xCB, 0xFF] = .ok (.set_7_A, []) := ⟨rfl, rfl⟩
theorem witness_IllegalOpcodesFault : (0x02 : Byte) ∈ undocumentedOpcodes ∧ (0xFF : Byte) ∈ undocumentedOpcodes := by
  decide
theorem witness_M6502EffectiveAddresses : (Operand.zp 0xFF).mode ≠ .imm := by decide

theorem witness_M6502InstructionFrame_load : (Instr.lda (.zp 0x10)).stack = .nStack ∧
    (∃ t, exec (.lda (.zp 0x10)) (nS id) = .next t) ∧ nStores (.lda (.zp 0x10)) (nS id).n = [] ∧
    ∀ op, Instr.lda (.zp 0x10) ≠ .ill op := ⟨rfl, ⟨_, rfl⟩, rfl, fun _ h => nomatch h⟩
theorem witness_M6502InstructionFrame_store : (Instr.brk).stack = .nStack ∧
    (∃ t, exec .brk (nS id) = .next t) ∧ nStores .brk (nS id).n = [0x01FD, 0x01FC, 0x01FB] ∧
    (nS id).n.cellOf 0x01FD ≠ some (.ram, 0x01FE) ∧
    (nS id).n.cellOf 0x01FC ≠ some (.ram, 0x01FE) ∧ (nS id).n.cellOf 0x01FB ≠ some (.ram, 0x01FE) :=
  ⟨rfl, ⟨_, rfl⟩, rfl, by decide +kernel⟩
theorem witness_Sm83_fields : R8.b ≠ .mHL ∧ R8.a ≠ .mHL := by decide
theorem witness_DecimalAdjust : (99 : Nat) < 100 ∧ (0 : Nat) < 100 := by decide
theorem witness_Sm83InstructionFrame_load : (Instr.inc_BC).stack = .gStack ∧
    (∃ t, exec .inc_BC (gS id) = .next t ∧ t.g.cycles ≠ 0) ∧ gStores .inc_BC (gS id).g.cpu = [] :=
  ⟨rfl, ⟨_, rfl, by decide +kernel⟩, rfl⟩
theorem witness_Sm83InstructionFrame_store : (∃ t, exec .push_AF (gS id) = .next t ∧ t.g.cycles ≠ 0) ∧
    gStores .push_AF (gS id).g.cpu = [0xFFFD, 0xFFFC] ∧
    (gS id).g.cellOf .cpu 0xFFFD ≠ some (.hram, 0x7E) ∧ (gS id).g.cellOf .cpu 0xFFFC ≠ some (.hram, 0x7E) :=
  ⟨⟨_, rfl, by decide +kernel⟩, rfl, by decide +kernel⟩

theorem witness_EiTakesEffect : ∃ t, exec .ei (gS id) = .next t ∧ (gS id).g.cpu.imeDelay = 0 ∧
    (∃ u, exec .inc_B t = .next u ∧ Instr.inc_B ≠ .di ∧ u.g.cycles ≠ 0) ∧ (∃ u, exec .di t = .next u) ∧
    Instr.inc_B.stack = .gStack ∧ Instr.di.stack = .gStack :=
  ⟨_, rfl, rfl, ⟨_, rfl, by decide, by decide +kernel⟩, ⟨_, rfl⟩, rfl, rfl⟩

theorem witness_ReadAfterWrite_N : wN.Inv ∧ (0x1FFF : Word).toNat < 0x2000 ∧
    0x6000 ≤ (0x6000 : Word).toNat ∧ (0x7FFF : Word).toNat < 0x8000 := ⟨witness_N_invariant, by decide⟩
theorem witness_ReadAfterWrite_G : let g := wG wPOff id noDma []
    g.Inv ∧ g.vramBlocked = false ∧ g.oamBlocked = false ∧ g.cart.ramSize ≠ 0 ∧ g.mbc.ramEnable = true ∧
    (0x9FFF : Word).toNat < 0xA000 ∧ (0xBFFF : Word).toNat < 0xC000 ∧ (0xFDFF : Word).toNat < 0xFE00 ∧
    (0xFE9F : Word).toNat < 0xFEA0 ∧ (0xFFFE : Word).toNat < 0xFFFF :=
  ⟨witness_G_invariant _ _ _ _ witness_POff_invariant ⟨rfl, rfl⟩ (by decide) (by decide) rfl, by decide +kernel⟩
theorem witness_MirrorsAndUnclaimed : (0x1FFF : Word).toNat < 0x2000 ∧ 0x2000 ≤ (0x3FFF : Word).toNat ∧
    (0x3FFF : Word).toNat < 0x4000 ∧ 0xE000 ≤ (0xFDFF : Word).toNat ∧ (0xFDFF : Word).toNat < 0xFE00 ∧
    0x4000 ≤ (0x5FFF : Word).toNat ∧ (0x5FFF : Word).toNat < 0x6000 ∧
    (0x5FFF : Word).toNat ≠ 0x4014 ∧ (0x5FFF : Word).toNat ≠ 0x4016 ∧ (0x5FFF : Word).toNat ≠ 0x4017 ∧
    0xFEA0 ≤ (0xFEFF : Word).toNat ∧ (0xFF01 : Word).toNat ≤ 0xFF03 ∧ (0xFF0E : Word).toNat ≤ 0xFF0E ∧
    0xFF4C ≤ (0xFF7F : Word).toNat := by decide
theorem witness_BusAccessFrame : wN.cellOf 0x1FFF ≠ some (.ram, 0) ∧ (wCode []).cellOf .cpu 0xC000 ≠ some (.wram, 1) ∧
    0x2000 ≤ (0x3FFF : Word).toNat ∧ (0x3FFF : Word).toNat < 0x4000 ∧
    0xFF10 ≤ (0xFF3F : Word).toNat ∧ (0xFF3F : Word).toNat < 0xFF40 ∧
    0x4000 ≤ (0x4015 : Word).toNat ∧ (0xFF0F : Word).toNat < 0xFF10 ∧ 0xFF40 ≤ (0xFF40 : Word).toNat := by
  decide +kernel
theorem witness_VideoMemory : 0x8000 ≤ (0x9FFF : Word).toNat ∧ (0x9FFF : Word).toNat < 0xA000 ∧
    0xFE00 ≤ (0xFE9F : Word).toNat ∧ (0xFE9F : Word).toNat < 0xFEA0 ∧
    ((wP 0 80).lcdc.msb = true ∧ (wP 0 80).mode = .transfer) ∧ (wP 0 79).mode = .oamSearch ∧ (wP 0 252).mode = .hblank := by
  decide +kernel
theorem witness_LcdSwitching : (wP 0 0).lcdc.msb = true ∧ (0x7F : Byte).msb = false ∧ wPOff.lcdc.msb = false ∧
    (0x80 : Byte).msb = true := by decide +kernel
theorem witness_CartridgeBanks : 0x8000 ≤ (0xFFFF : Word).toNat ∧ wN.cart.mapper = .cnrom ∧
    NStack.reset.cart.mapper = .nrom ∧ ({ wN.cart with mapper := .uxrom } : NCart).mapper = .uxrom ∧
    (0x3FFF : Word).toNat < 0x4000 ∧ 0x4000 ≤ (0x7FFF : Word).toNat ∧ (0x7FFF : Word).toNat < 0x8000 ∧
    GStack.reset.cart.type = .romOnly ∧ (wCode []).cart.type = .mbc1 ∧
    0xA000 ≤ (0xBFFF : Word).toNat ∧ (0xBFFF : Word).toNat < 0xC000 := by decide +kernel
theorem witness_ComputedOffsets : 1 ≤ wN.cart.prgUnits ∧ 0x7FFF < 0x8000 ∧ 2 ≤ (wCode []).cart.romBanks ∧
    (wCode []).cart.ramSize ≠ 0 ∧ 7 < 8 ∧ 255 < 256 ∧ 39 ∈ (wP 0 0).selectSprites [(156, 0x10)] 0 := by decide +kernel
theorem witness_ComputedOffsets_agree :
    (∀ k < 0x2000, Memory.read [(0x1FFF, 1), (0x2000, 2)] k = Memory.read [(0x1FFF, 1)] k) ∧
    (∀ k < 160, Memory.read [(159, 1), (160, 2)] k = Memory.read [(159, 1)] k) := by
  constructor
  all_goals
    intro k hk
    simp only [Memory.read, sparseRead]
    repeat' split
    all_goals first | rfl | omega
theorem witness_JoypadRegisters : 7 < 8 ∧ 3 < 4 := by decide

theorem witness_DmaUnits_N : let s := { nS id with n := { wN with dma := { active := true, page := 0x02, index := 255 } } }
    s.stack = .nStack ∧ s.n.cpu.faulted = false ∧ s.n.cpu.nmiPending = false ∧
    (s.n.cpu.irqLine = false ∨ s.n.cpu.p.i = true) ∧ s.n.dma.active = true ∧ s.n.dma.index < 256 := by decide +kernel
theorem witness_DmaUnits_G : (wG wPOff id { active := true, src := 0xC0, index := 159 } []).dma.active = true ∧
    0x8000 ≤ (0x9FFF : Word).toNat ∧ (0x7FFF : Word).toNat < 0x8000 := by decide +kernel
theorem witness_WholeTransfer :
    let s := wS .gStack (wG (wP 0 0) id { active := true, src := 0xFD, index := 0 } [(0x1D00, 0x77)])
    s.Inv ∧ s.stack = .gStack ∧ s.g.cpu.faulted = false ∧ s.g.cpu.ime = false ∧ s.g.cpu.halted = false ∧
    s.g.cpu.stopped = false ∧ s.g.dma.active = true ∧ s.g.dma.index = 0 ∧ s.g.dma.src.toNat < 0xFE :=
  ⟨⟨witness_N_invariant, witness_G_invariant _ _ _ _ (witness_P_invariant 0 0 (by decide) (by decide)) ⟨rfl, rfl⟩
    (by decide) (by decide) rfl⟩, by decide +kernel⟩

/-- A timer at its fastest rate one tick before a falling edge of the selected bit. -/
def wT (tima tac : Byte) : GTimer :=
  { div16 := 0x000F, tima := tima, tma := 0x7A, tac := tac.setWidth 3, ovfDelay := 0 }

theorem witness_TimerCounts : (wT 0xFE 0b101).ovfDelay = 0 ∧ 4 ≤ (wT 0xFE 0b101).tac.toNat ∧
    (wT 0xFE 0b101).tima ≠ 0xFF ∧ (wT 0xFF 0b011).tac.toNat < 4 := by decide +kernel
theorem witness_TimerReloads : (wT 0xFF 0b101).ovfDelay = 0 ∧ (wT 0xFF 0b101).tima = 0xFF ∧
    ((wT 0xFF 0b101).advance 1 { ifReg := 0, ieReg := 0 }).1.tima ≠ 0xFF := by decide +kernel
theorem witness_PictureUnitGeometry : (wP 153 455).Inv ∧ (wP 153 455).lcdOn = true ∧ wPOff.Inv ∧ wPOff.lcdOn = false :=
  ⟨witness_P_invariant 153 455 (by decide) (by decide), by decide +kernel, witness_POff_invariant, by decide +kernel⟩
theorem witness_VerticalBlank : (wP 143 455).Inv ∧ (wP 143 455).lcdOn = true ∧ toVblank (wP 143 455) = 1 ∧
    (wP 144 0).Inv ∧ toVblank (wP 144 0) = 70224 :=
  ⟨witness_P_invariant 143 455 (by decide) (by decide), by decide +kernel, by decide +kernel,
    witness_P_invariant 144 0 (by decide) (by decide), by decide +kernel⟩
theorem witness_DotRequests : (wP 143 455).ly.toNat < 154 ∧ (wP 143 455).dot < 456 := by decide +kernel
theorem witness_ScanlineIsDrawn : (wP 143 251).Inv ∧ (wP 143 251).ly.toNat < 144 ∧ (wP 143 251).dot = 251 :=
  ⟨witness_P_invariant 143 251 (by decide) (by decide), by decide +kernel, rfl⟩
theorem witness_BackgroundAndWindow : 159 < 160 ∧ 143 < 144 := by decide
theorem witness_SpriteSelectionOrderAndPixels : (wP 0 0).lcdc.getLsbD 1 = true ∧ wPOff.lcdc.getLsbD 1 = false := by decide +kernel

theorem witness_InterruptEntry_N : let s := nVectors 0x8123
    (s true true).stack = .nStack ∧ (s true true).n.cpu.faulted = false ∧ (s true true).n.cpu.nmiPending = true ∧
    (s false true).n.cpu.nmiPending = false ∧ (s false true).n.cpu.irqLine = true ∧
    (s false true).n.cpu.p.i = false := by decide +kernel
theorem witness_InterruptEntry_G : let s := gIrq 0b11000 0b11111 fun r => { r with ime := true }
    s.stack = .gStack ∧ s.g.cpu.faulted = false ∧ s.g.cpu.ime = true ∧
    (s.g.irq.ieReg &&& s.g.irq.ifReg).getLsbD 3 = true ∧
    ∀ j < 3, (s.g.irq.ieReg &&& s.g.irq.ifReg).getLsbD j = false := by decide +kernel
theorem witness_ReturnUndoesEntry_N : wN.Inv ∧ 0xFFFA ≤ (0xFFFE : Word).toNat ∧ (0xFFFE : Word).toNat < 0xFFFF :=
  ⟨witness_N_invariant, by decide⟩
theorem witness_ReturnUndoesEntry_G : (wCode [0x00]).Inv ∧ ((.hram, 0x7D) : GCell) ≠ (.hram, 0x7C) ∧
    (wCode [0x00]).cellOf .cpu ((wCode [0x00]).cpu.sp - 1) = some (.hram, 0x7D) ∧
    (wCode [0x00]).cellOf .cpu ((wCode [0x00]).cpu.sp - 2) = some (.hram, 0x7C) :=
  ⟨(witness_invariant .gStack 0).g, by decide, rfl, rfl⟩

theorem witness_StepRunsDecodedM6502 (b1 : Byte) : let s := nS id [(0, 0x8D), (1, 0x34), (2, 0x12)]
    s.stack = .nStack ∧ nReady s.n ∧ s.n.read s.n.cpu.pc = (0x8D, s.n) ∧ s.n.read (s.n.cpu.pc + 1) = (0x34, s.n) ∧
    s.n.read (s.n.cpu.pc + 2) = (0x12, s.n) ∧ decode .nStack [0x8D, 0x34, 0x12] = .ok (.sta (.abs 0x1234), []) ∧
    decode .nStack [0xA9, b1, 0x12] = .ok (.lda (.imm b1), [0x12]) ∧
    decode .nStack [0xE8, b1, 0x12] = .ok (.inx, [b1, 0x12]) :=
  ⟨rfl, ⟨rfl, rfl, .inl rfl, rfl⟩, rfl, rfl, rfl, rfl, rfl, rfl⟩
theorem witness_StepRunsDecodedSm83 :
    let s := { wS .gStack (wG (wP 0 0) (fun r => { r with pc := 0xC000, halted := true }) noDma [(0, 0xCB), (1, 0x37)]) with
      stack := .gStack }
    let t := { s with g := { s.g with irq := { ifReg := 0b10000, ieReg := 0b10000 } } }
    let g0 := { t.g with cpu := { t.g.cpu with halted := false, stopped := false } }
    t.stack = .gStack ∧ gReady t.g ∧ g0.read t.g.cpu.pc = (0xCB, g0) ∧ g0.read (t.g.cpu.pc + 1) = (0x37, g0) ∧
    g0.read (t.g.cpu.pc + 2) = (0x00, g0) ∧ decode .gStack [0xCB, 0x37, 0x00] = .ok (.swap_A, [0x00]) :=
  ⟨rfl, ⟨rfl, .inl rfl, .inr (by decide +kernel), .inl rfl, rfl⟩,
    by decide +kernel, by decide +kernel, by decide +kernel, rfl⟩
theorem witness_FaultedSleepingAndHalted_faulted : (nRun 0x02 0 0 (nS id)).stack = .nStack ∧
    (nRun 0x02 0 0 (nS id)).n.cpu.faulted = true ∧ (gRun 0xD3 0 0 (gS id)).stack = .gStack ∧
    (gRun 0xD3 0 0 (gS id)).g.cpu.faulted = true := by decide +kernel
theorem witness_FaultedSleepingAndHalted_asleep :
    let h := gIrq 0b00000 0b00001 fun r => { r with halted := true, ime := true }
    let p := gIrq 0b00001 0b00001 fun r => { r with halted := true, stopped := true }
    h.stack = .gStack ∧ h.g.cpu.faulted = false ∧ h.g.irq.pending = 0 ∧ h.g.cpu.halted = true ∧
    p.stack = .gStack ∧ p.g.cpu.faulted = false ∧ p.g.cpu.ime = false ∧ p.g.irq.pending ≠ 0 ∧
    p.g.cpu.stopped = true ∧ p.g.irq.ifReg.getLsbD 4 = false := by decide +kernel
theorem witness_FaultedSleepingAndHalted_selfJump : (wS .gStack (wCode [0x18, 0xFE])).programHalted :=
  .inr (.inr (State.GSpinning.spins
    ⟨rfl, rfl, rfl, rfl, rfl, .inl ⟨by decide +kernel, by decide +kernel⟩, .inl rfl⟩))
/-- `JR -2` in SCY and SCX, device registers that hold code (R132): a self-jump; `JR -1` is none. -/
theorem test_self_jump_registers :
    let s (d : Byte) : State := { gS fun r => { r with pc := 0xFF42 } with g := { (gS fun r => { r with pc := 0xFF42 }).g with
      ppu := { GStack.reset.ppu with scy := 0x18, scx := d } } }
    (s 0xFE).selfJump ∧ (next (cpuStep (s 0xFF))).g.cpu.pc = 0xFF43 :=
  ⟨⟨_, rfl, rfl⟩, by decide +kernel⟩
/-- `BNE *-2` with `Z` clear jumps to itself. -/
theorem test_self_jump_branch : (nS id [(0, 0xD0), (1, 0xFE)]).selfJump := ⟨_, rfl, rfl⟩
theorem witness_PeripheralsFollowTheCpu : (gS id).stack = .gStack ∧ (gS id).g.cpu.faulted = false ∧
    (nS id).stack = .nStack ∧ (nS id).n.cpu.faulted = false := by decide +kernel
theorem witness_PeripheralsFollowTheCpu_faulted : (nRun 0x02 0 0 (nS id)).faulted = true := by decide +kernel
theorem witness_StacksShareNothing : (∃ t, step (gS id) = .next t) ∧
    (∃ t, step { gS id with n := wN } = .next t) ∧ (gS id).stack = ({ gS id with n := wN } : State).stack ∧
    (gS id).g = ({ gS id with n := wN } : State).g := ⟨⟨_, rfl⟩, ⟨_, rfl⟩, rfl, rfl⟩
theorem witness_CycleCounts : (∃ t, exec (decodeM6502 0xBD 0xFF 0x02) (nS fun r => { r with x := 1 }) = .next t) ∧
    (∃ t, exec (decodeSm83 0xC2 0x00 0x40) (gS fun r => { r with f := F 0x00 }) = .next t) ∧ (0xC2 : Byte) ≠ 0xCB ∧
    (∃ t, exec (decodeSm83 0xCB 0x46 0x00) (gS id) = .next t) :=
  ⟨⟨_, rfl⟩, ⟨_, rfl⟩, by decide, ⟨_, rfl⟩⟩
theorem witness_RunFrameEnds : (wS .nStack (wCode [0x00])).Inv ∧ (wS .gStack (wCode [0x00])).Inv :=
  ⟨witness_invariant _ _, witness_invariant _ _⟩
theorem witness_StepKeepsInvariant : (wS .gStack (wCode [0x3C])).Inv ∧
    ∃ t, step (wS .gStack (wCode [0x3C])) = .next t := ⟨witness_invariant _ _, ⟨_, rfl⟩⟩
theorem witness_OnlyIllegalOpcodesFault : let s := wS .gStack (wCode [0xDD])
    s.Inv ∧ s.faulted = false ∧ ∃ t, step s = .next t ∧ t.faulted = true :=
  ⟨witness_invariant _ _, rfl, ⟨_, rfl, by decide +kernel⟩⟩
theorem witness_OnlyIllegalOpcodesFault_N :
    let s := { wS .nStack (wCode [0x00]) with n := { wN with ram := [(0, 0x02)] } }
    s.n.Inv ∧ s.faulted = false ∧ ∃ t, step s = .next t ∧ t.faulted = true :=
  ⟨⟨⟨by decide +kernel, by decide +kernel⟩, witness_N_invariant.prgRam, witness_N_invariant.prgRom,
    by decide +kernel, by decide +kernel, by decide +kernel, rfl, by decide +kernel, by decide +kernel⟩, rfl,
    ⟨_, rfl, by decide +kernel⟩⟩
theorem construct_G_zeros (unit n : Nat) (h : n = 0x8000) :
    ∃ s, construct .gStack (List.replicate n 0) none unit = .ok s := by
  have h1 : ¬ (n % 0x4000 ≠ 0 ∨ n < 0x8000) := by omega
  simp [construct, parseGHeader, h1, ramSizeOfCode]
theorem construct_N_zeros (unit n : Nat) (h : n = 0x4008) :
    ∃ s, construct .nStack ([0x4E, 0x45, 0x53, 0x1A, 1, 0, 0x20, 0] ++ List.replicate n 0) none unit = .ok s := by
  have h1 : ¬ (n + 8 < 16) := by omega
  have h2 : ¬ (n + 8 < 16 + 0x4000) := by omega
  simp [construct, parseINes, h1, h2]
theorem witness_Construction :
    (∃ s, construct .gStack (List.replicate 0x8000 0) none 0 = .ok s) ∧
    ∃ s, construct .nStack ([0x4E, 0x45, 0x53, 0x1A, 1, 0, 0x20, 0] ++ List.replicate 0x4008 0) none 0 = .ok s :=
  ⟨construct_G_zeros 0 _ rfl, construct_N_zeros 0 _ rfl⟩
theorem witness_SaveDataRoundTrip : (wS .gStack (wCode [0x00])).Inv ∧
    0x1FFF < (wS .gStack (wCode [0x00])).getSaveData.length :=
  ⟨witness_invariant _ _, by decide +kernel⟩

end Sys2Proof.Tests
end

section
/-! Proofs. What an instruction of either core is made of: bus accesses and changes of registers. Every frame
statement and every invariant of an instruction follows from these relations by induction. -/

open Sys2Proof.Stated

namespace Sys2Proof.Machine

/-! ### The M6502 -/

/-- What no M6502 instruction but ILL changes of its core: the interrupt inputs (R26) and the fault state (R27). -/
structure M6502.SameInputs (r r' : M6502) : Prop where
  nmiPending : r'.nmiPending = r.nmiPending
  irqLine : r'.irqLine = r.irqLine
  faulted : r'.faulted = r.faulted
  faultInfo : r'.faultInfo = r.faultInfo

theorem M6502.SameInputs.trans {r r' r'' : M6502} (h : r.SameInputs r') (h' : r'.SameInputs r'') :
    r.SameInputs r'' :=
  ⟨h'.nmiPending.trans h.nmiPending, h'.irqLine.trans h.irqLine, h'.faulted.trans h.faulted,
    h'.faultInfo.trans h.faultInfo⟩

/-- `n.Reaches l m`: `m` comes from `n` by reads of the bus, changes of registers that keep the interrupt inputs and
the fault state, and stores to the addresses `l`, in this order. -/
inductive NStack.Reaches (n : NStack) : List Word → NStack → Prop where
  | here : n.Reaches [] n
  | read {l : List Word} {m : NStack} (a : Word) (h : n.Reaches l m) : n.Reaches l (m.read a).2
  | regs {l : List Word} {m : NStack} (r : M6502) (k : Nat) (h : n.Reaches l m) (hr : m.cpu.SameInputs r) :
      n.Reaches l { m with cpu := r, cycles := k }
  | write {l : List Word} {m : NStack} (a : Word) (v : Byte) (h : n.Reaches l m) :
      n.Reaches (l ++ [a]) (m.write a v)

namespace NStack.Reaches

variable {n m : NStack} {l : List Word}

theorem cpu_same (h : n.Reaches l m) : n.cpu.SameInputs m.cpu := by
  induction h with
  | here => exact ⟨rfl, rfl, rfl, rfl⟩
  | read a _ ih => rwa [read_cpu]
  | regs r k _ hr ih => exact ih.trans hr
  | write a v _ ih => rwa [write_cpu]

theorem cart_eq (h : n.Reaches l m) : m.cart = n.cart := by
  induction h with
  | here => rfl
  | read a _ ih => rwa [read_cart]
  | regs r k _ _ ih => exact ih
  | write a v _ ih => rwa [write_cart]

theorem frame_eq (h : n.Reaches l m) : m.frame = n.frame := by
  induction h with
  | here => rfl
  | read a _ ih => rwa [read_frame]
  | regs r k _ _ ih => exact ih
  | write a v _ ih => rwa [write_frame]

/-- Without a store the memories, the banks and the DMA stay (R113). -/
theorem eq_of_no_store (h : n.Reaches l m) (hl : l = []) :
    m = { n with cpu := m.cpu, cycles := m.cycles, joy := m.joy, ppuPort := m.ppuPort } := by
  induction h with
  | here => rfl
  | read a _ ih => rw [read_after, ih hl]
  | regs r k _ _ ih => rw [ih hl]
  | write a v _ _ => simp at hl

/-- A byte of storage that no store reaches is unchanged. -/
theorem peek_eq {c : NCell} (h : n.Reaches l m) (hc : ∀ a ∈ l, n.cellOf a ≠ some c) : m.peek c = n.peek c := by
  induction h with
  | here => rfl
  | read a _ ih => rw [read_peek, ih hc]
  | regs r k _ _ ih => exact ih hc
  | write a v _ ih =>
    refine (peek_write_ne _ a v ?_).trans (ih fun b hb => hc b (List.mem_append_left _ hb))
    exact hc a (List.mem_append_right _ (List.mem_singleton_self a))

theorem inv (h : n.Reaches l m) (hn : n.Inv) : m.Inv := by
  induction h with
  | here => exact hn
  | read a _ ih => exact ih.read a
  | regs r k _ hr ih =>
    exact ⟨ih.ram, ih.prgRam, ih.prgRom, ih.prgUnits, ih.dmaIndex, ih.dmaActive,
      by rw [hr.faulted, hr.faultInfo]; exact ih.fault, ih.carry, ih.count⟩
  | write a v _ ih => exact ih.write a v

/-! The shared operations as such chains. -/

theorem setPc (h : n.Reaches l m) (pc : Word) : n.Reaches l { m with cpu := { m.cpu with pc := pc } } :=
  h.regs _ _ ⟨rfl, rfl, rfl, rfl⟩

theorem setP (h : n.Reaches l m) (p : M6502Flags) : n.Reaches l { m with cpu := { m.cpu with p := p } } :=
  h.regs _ _ ⟨rfl, rfl, rfl, rfl⟩

theorem setCycles (h : n.Reaches l m) (k : Nat) : n.Reaches l { m with cycles := k } :=
  h.regs m.cpu k ⟨rfl, rfl, rfl, rfl⟩

theorem next (h : n.Reaches l m) (len cost : Nat) : n.Reaches l (m.next len cost) :=
  h.regs _ _ ⟨rfl, rfl, rfl, rfl⟩

theorem jump (h : n.Reaches l m) (target : Word) (cost : Nat) : n.Reaches l (m.jump target cost) :=
  h.regs _ _ ⟨rfl, rfl, rfl, rfl⟩

theorem push8 (h : n.Reaches l m) (v : Byte) : n.Reaches (l ++ [stackAddr m.cpu.s]) (m.push8 v) :=
  (h.write _ v).regs _ _ ⟨rfl, rfl, rfl, rfl⟩

theorem pushWord (h : n.Reaches l m) (v : Word) :
    n.Reaches (l ++ [stackAddr m.cpu.s] ++ [stackAddr (m.cpu.s - 1)]) (m.pushWord v) :=
  (h.push8 (hiByte v)).push8 (loByte v)

theorem pull8 (h : n.Reaches l m) : n.Reaches l m.pull8.2 :=
  (h.read _).regs _ _ (by rw [read_cpu]; exact ⟨rfl, rfl, rfl, rfl⟩)

theorem pullWord (h : n.Reaches l m) : n.Reaches l m.pullWord.2 := h.pull8.pull8

theorem readPair (h : n.Reaches l m) (lo hi : Word) : n.Reaches l (m.readPair lo hi).2 := (h.read lo).read hi

theorem readOperand (h : n.Reaches l m) (o : Operand) : n.Reaches l (m.readOperand o).after := by
  by_cases hi : o.mode = .imm
  · cases o
    case imm d => exact h
    all_goals cases hi
  · rw [readOperand_of_ne_imm m hi]
    exact h.read _

theorem readInstr {f : Byte → M6502 → M6502} (hf : ∀ v r, M6502.SameInputs r (f v r)) (o : Operand) :
    n.Reaches [] (n.readInstr o f) :=
  ((here.readOperand o).regs _ _ (hf _ _)).next _ _

theorem storeInstr (o : Operand) (v : M6502 → Byte) : n.Reaches [(n.resolve o).ea] (n.storeInstr o v) := by
  simp only [NStack.storeInstr, resolve_after]
  exact (here.write _ _).next _ _

theorem rmwInstr (o : Operand) (f : M6502Flags → Byte → Byte × M6502Flags) :
    n.Reaches [(n.resolve o).ea] (n.rmwInstr o f) := by
  simp only [NStack.rmwInstr, resolve_after]
  exact (((here.read _).write _ _).setP _).next _ _

theorem impliedInstr {f : M6502 → M6502} (hf : ∀ r, M6502.SameInputs r (f r)) (cost : Nat) :
    n.Reaches [] (n.impliedInstr cost f) :=
  (here.regs _ _ (hf _)).next _ _

theorem branch (cond : M6502Flags → Bool) (rel8 : Byte) : n.Reaches [] (n.branch cond rel8) := by
  unfold NStack.branch
  dsimp only
  split <;> exact here.regs _ _ ⟨rfl, rfl, rfl, rfl⟩

/-- An interrupt entry stores three bytes on the stack (R274, R520, R521). -/
theorem enterInterrupt (n : NStack) (ret : Word) (b : Bool) (vector : Word) :
    n.Reaches [stackAddr n.cpu.s, stackAddr (n.cpu.s - 1), stackAddr (n.cpu.s - 2)]
      (n.enterInterrupt ret b vector) := by
  have e : n.cpu.s - 1 - 1 = n.cpu.s - 2 := by bv_omega
  have h := ((here (n := n)).pushWord ret).push8 (n.cpu.p.pack b)
  rw [show (n.pushWord ret).cpu.s = n.cpu.s - 1 - 1 from rfl, e] at h
  exact ((h.setP _).readPair vector (vector + 1)).setPc _

theorem returnFromInterrupt (n : NStack) : n.Reaches [] n.returnFromInterrupt :=
  (here.pull8.setP _).pullWord.setPc _

end NStack.Reaches

end Sys2Proof.Machine
end

section
/-! Proofs. Every M6502 instruction is one chain of bus accesses and register changes. -/

open Sys2Proof.Stated

namespace Sys2Proof.Machine

/-- `i` is not ILL, and `f` stores where the rule of `i` says and charges 2 to 8 cycles (R503). -/
structure NStack.Runs (i : Instr) (f : NStack → NStack) : Prop where
  notIll : ∀ op, i ≠ .ill op
  reaches : ∀ n : NStack, n.Reaches (nStores i n) (f n)
  cycles : ∀ n : NStack, 2 ≤ (f n).cycles ∧ (f n).cycles ≤ 8

/-- What the meaning of an M6502 instruction is: such a chain, or the fault of ILL (R300). -/
inductive NStack.Meaning : Instr → (NStack → NStack) → Prop where
  | runs {i : Instr} {f : NStack → NStack} (h : NStack.Runs i f) : Meaning i f
  | ill (op : Byte) : Meaning (.ill op) fun n => n.raiseFault (.illegalOpcode op)

theorem readCycles_range (m : Mode) (c : Bool) : 2 ≤ readCycles m + b2n c ∧ readCycles m + b2n c ≤ 8 := by
  cases m <;> cases c <;> decide

theorem storeCycles_range (m : Mode) : 2 ≤ storeCycles m ∧ storeCycles m ≤ 8 := by cases m <;> decide

theorem rmwCycles_range (m : Mode) : 2 ≤ rmwCycles m ∧ rmwCycles m ≤ 8 := by cases m <;> decide

theorem M6502.loadA_same (v : Byte) (r : M6502) : r.SameInputs (M6502.loadA v r) := ⟨rfl, rfl, rfl, rfl⟩

namespace NStack.Runs

variable {i : Instr}

/-- An instruction of one fixed cost. -/
theorem of_cost {f : NStack → NStack} (k : Nat) (hk : 2 ≤ k ∧ k ≤ 8) (hi : ∀ op, i ≠ .ill op)
    (hc : ∀ n, (f n).cycles = k) (hr : ∀ n : NStack, n.Reaches (nStores i n) (f n)) : Runs i f where
  notIll := hi
  reaches := hr
  cycles n := by rw [hc]; exact hk

theorem readInstr {o : Operand} {f : Byte → M6502 → M6502} (hi : ∀ op, i ≠ .ill op) (hs : nStores i = fun _ => [])
    (hf : ∀ v r, M6502.SameInputs r (f v r)) : Runs i (NStack.readInstr o f) where
  notIll := hi
  reaches n := by rw [hs]; exact .readInstr hf o
  cycles n := readCycles_range _ _

theorem storeInstr {o : Operand} {v : M6502 → Byte} (hi : ∀ op, i ≠ .ill op)
    (hs : nStores i = fun n => [(n.resolve o).ea]) : Runs i (NStack.storeInstr o v) where
  notIll := hi
  reaches n := by rw [hs]; exact .storeInstr o v
  cycles n := storeCycles_range _

theorem rmwInstr {o : Operand} {f : M6502Flags → Byte → Byte × M6502Flags} (hi : ∀ op, i ≠ .ill op)
    (hs : nStores i = fun n => [(n.resolve o).ea]) : Runs i (NStack.rmwInstr o f) where
  notIll := hi
  reaches n := by rw [hs]; exact .rmwInstr o f
  cycles n := rmwCycles_range _

theorem impliedInstr {f : M6502 → M6502} (hi : ∀ op, i ≠ .ill op) (hs : nStores i = fun _ => [])
    (hf : ∀ r, M6502.SameInputs r (f r)) : Runs i (NStack.impliedInstr 2 f) :=
  of_cost 2 (by decide) hi (fun _ => rfl) fun n => by rw [hs]; exact .impliedInstr hf 2

theorem shiftAcc {f : M6502Flags → Byte → Byte × M6502Flags} (hi : ∀ op, i ≠ .ill op) (hs : nStores i = fun _ => []) :
    Runs i (NStack.shiftInstr f .acc) :=
  impliedInstr (f := fun r => { r with a := (f r.p r.a).1, p := (f r.p r.a).2 }) hi hs fun _ => ⟨rfl, rfl, rfl, rfl⟩

theorem shiftMem {o : Operand} {f : M6502Flags → Byte → Byte × M6502Flags} (hi : ∀ op, i ≠ .ill op)
    (hs : nStores i = fun n => [(n.resolve o).ea]) : Runs i (NStack.shiftInstr f (.mem o)) :=
  rmwInstr hi hs

theorem branch {cond : M6502Flags → Bool} {rel8 : Byte} (hi : ∀ op, i ≠ .ill op) (hs : nStores i = fun _ => []) :
    Runs i (NStack.branch cond rel8) where
  notIll := hi
  reaches n := by rw [hs]; exact .branch cond rel8
  cycles n := by
    unfold NStack.branch
    dsimp only
    split_ifs <;> simp

theorem jmp_abs (a : Word) : Runs (.jmp (.abs a)) fun n => n.jump a 3 :=
  of_cost 3 (by decide) nofun (fun _ => rfl) fun _ => .jump .here _ _

theorem jmp_ind (ptr : Word) : Runs (.jmp (.ind ptr)) fun n => (n.pagePointer ptr).2.jump (n.pagePointer ptr).1 5 :=
  of_cost 5 (by decide) nofun (fun _ => rfl) fun _ => .jump (.readPair .here _ _) _ _

theorem pha : Runs .pha fun n => (n.push8 n.cpu.a).next 1 3 :=
  of_cost 3 (by decide) nofun (fun _ => rfl) fun _ => .next (.push8 .here _) _ _

theorem php : Runs .php fun n => (n.push8 (n.cpu.p.pack true)).next 1 3 :=
  of_cost 3 (by decide) nofun (fun _ => rfl) fun _ => .next (.push8 .here _) _ _

theorem pla : Runs .pla fun n => { n.pull8.2 with cpu := M6502.loadA n.pull8.1 n.pull8.2.cpu }.next 1 4 :=
  of_cost 4 (by decide) nofun (fun _ => rfl) fun _ =>
    .next (.regs _ _ (.pull8 .here) (M6502.loadA_same _ _)) _ _

theorem plp :
    Runs .plp fun n => { n.pull8.2 with cpu := { n.pull8.2.cpu with p := M6502Flags.unpack n.pull8.1 } }.next 1 4 :=
  of_cost 4 (by decide) nofun (fun _ => rfl) fun _ =>
    .next (.setP (.pull8 .here) _) _ _

theorem jsr (a : Word) : Runs (.jsr a) fun n => (n.pushWord (n.cpu.pc + 2)).jump a 6 :=
  of_cost 6 (by decide) nofun (fun _ => rfl) fun _ => .jump (.pushWord .here _) _ _

theorem rts : Runs .rts fun n => n.pullWord.2.jump (n.pullWord.1 + 1) 6 :=
  of_cost 6 (by decide) nofun (fun _ => rfl) fun _ => .jump (.pullWord .here) _ _

theorem rti : Runs .rti fun n => { n.returnFromInterrupt with cycles := 6 } :=
  of_cost 6 (by decide) nofun (fun _ => rfl) fun n =>
    (Reaches.returnFromInterrupt n).setCycles 6

theorem brk : Runs .brk fun n => { n.enterInterrupt (n.cpu.pc + 2) true irqVector with cycles := 7 } :=
  of_cost 7 (by decide) nofun (fun _ => rfl) fun n =>
    (Reaches.enterInterrupt n (n.cpu.pc + 2) true irqVector).setCycles 7

end NStack.Runs

open NStack in
/-- The meaning of an M6502 instruction (R200). -/
theorem exec_m6502 {i : Instr} (h : i.stack = .nStack) : ∃ f, (∀ s, exec i s = s.onN f) ∧ Meaning i f := by
  cases i
  case lda | adc | sbc | and | ora | eor | cmp | cpx | cpy | bit | ldx | ldy =>
    exact ⟨_, fun _ => rfl, .runs (.readInstr nofun rfl fun _ _ => ⟨rfl, rfl, rfl, rfl⟩)⟩
  case sta | stx | sty => exact ⟨_, fun _ => rfl, .runs (.storeInstr nofun rfl)⟩
  case inc | dec => exact ⟨_, fun _ => rfl, .runs (.rmwInstr nofun rfl)⟩
  case asl o | lsr o | rol o | ror o =>
    cases o
    case acc => exact ⟨_, fun _ => rfl, .runs (.shiftAcc nofun rfl)⟩
    case mem => exact ⟨_, fun _ => rfl, .runs (.shiftMem nofun rfl)⟩
  case tax | tay | txa | tya | tsx | txs | inx | iny | dex | dey | clc | sec | cli | sei | cld | sed | clv | nop_6502 =>
    exact ⟨_, fun _ => rfl, .runs (.impliedInstr nofun rfl fun _ => ⟨rfl, rfl, rfl, rfl⟩)⟩
  case bcc | bcs | beq | bne | bmi | bpl | bvc | bvs => exact ⟨_, fun _ => rfl, .runs (.branch nofun rfl)⟩
  case jmp o =>
    cases o
    case abs a => exact ⟨_, fun _ => rfl, .runs (.jmp_abs a)⟩
    case ind p => exact ⟨_, fun _ => rfl, .runs (.jmp_ind p)⟩
  case jsr a => exact ⟨_, fun _ => rfl, .runs (.jsr a)⟩
  case rts => exact ⟨_, fun _ => rfl, .runs .rts⟩
  case pha => exact ⟨_, fun _ => rfl, .runs .pha⟩
  case php => exact ⟨_, fun _ => rfl, .runs .php⟩
  case pla => exact ⟨_, fun _ => rfl, .runs .pla⟩
  case plp => exact ⟨_, fun _ => rfl, .runs .plp⟩
  case rti => exact ⟨_, fun _ => rfl, .runs .rti⟩
  case brk => exact ⟨_, fun _ => rfl, .runs .brk⟩
  case ill op => exact ⟨_, fun _ => rfl, .ill op⟩
  all_goals cases h

end Sys2Proof.Machine
end

section
/-! Proofs. The frame of the M6502 instructions, and the two tables of results that are one page of `ram` each. -/

open Sys2Proof.Machine Sys2Proof.Stated

namespace Sys2Proof.Proofs

/-- Settles O14: every M6502 instruction is a chain of bus accesses and register changes, or the fault of ILL. -/
theorem m6502InstructionFrame : Obligations.M6502InstructionFrame := by
  unfold Obligations.M6502InstructionFrame
  intro i s t hi he
  obtain ⟨f, hf, hm⟩ := exec_m6502 hi
  rw [hf] at he
  obtain rfl := Host.Outcome.next.inj he
  cases hm with
  | runs h =>
    have hr := h.reaches s.n
    have hs := hr.cpu_same
    exact ⟨rfl, rfl, hr.cart_eq, hr.frame_eq, hs.nmiPending, hs.irqLine, fun _ => ⟨hs.faulted, hs.faultInfo⟩,
      hr.eq_of_no_store, fun c hc => hr.peek_eq hc⟩
  | ill op => exact ⟨rfl, rfl, rfl, rfl, rfl, rfl, fun h => absurd rfl (h op), fun _ => rfl, fun _ _ => rfl⟩

/-- The model's packed flags are the byte of the statements (R25). -/
theorem pack_eq_flagsByte (p : M6502Flags) (b : Bool) : p.pack b = flagsByte p b := by
  obtain ⟨n, v, d, i, z, c⟩ := p
  revert n v d i z c b
  decide

theorem flagsByte_unpack (v : Byte) : flagsByte (M6502Flags.unpack v) true = v ||| 0x30 := by
  rw [← pack_eq_flagsByte]
  revert v
  decide

/-- Settles O7: the pushes and pulls are one access of the stack page in `ram` each. -/
theorem m6502StackInstructions : Obligations.M6502StackInstructions := by
  unfold Obligations.M6502StackInstructions
  intro s n r top
  refine ⟨?_, ?_, ?_, M6502Flags.unpack top, ?_, flagsByte_unpack top⟩
  · change execPha s = _
    simp only [execPha, State.onN, nEnd, NStack.push8_eq]
    rfl
  · change execPhp s = _
    simp only [execPhp, State.onN, nEnd, NStack.push8_eq, pack_eq_flagsByte]
    rfl
  · change execPla s = _
    simp only [execPla, State.onN, nEnd, NStack.pull8_eq]
    rfl
  · change execPlp s = _
    simp only [execPlp, State.onN, nEnd, NStack.pull8_eq]
    rfl

/-- Settles O13: the interrupt entry and the return from it, written out over `ram` and the program ROM. -/
theorem m6502BreakAndReturn : Obligations.M6502BreakAndReturn := by
  unfold Obligations.M6502BreakAndReturn
  intro s n r
  refine ⟨?_, M6502Flags.unpack (n.ram.read (slot (r.s + 1))), ?_, flagsByte_unpack _⟩
  · have hv : NStack.irqVector.toNat = 0xFFFE := by decide
    have he := NStack.enterInterrupt_eq n (r.pc + 2) true (vector := NStack.irqVector) (by rw [hv]; decide)
      (by rw [hv]; decide)
    rw [hv, pack_eq_flagsByte] at he
    change execBrk s = _
    simp only [execBrk, State.onN]
    rw [he]
    rfl
  · have he := NStack.returnFromInterrupt_eq n
    change execRti s = _
    simp only [execRti, State.onN]
    rw [he]
    rfl

end Sys2Proof.Proofs
end

section
/-! Proofs. Which byte of storage an address of the G-stack reaches after a store (R93, R106, R107, R122, R123). -/

open Sys2Proof.Stated

namespace Sys2Proof.Machine

/-- The claims by which a store can open, close or switch storage at another address: the bank registers, the
cartridge RAM they act on, and LCDC. -/
inductive GClaim.Kind where
  | rom | eram | lcdc | other
  deriving DecidableEq

/-- The kind of a claim. -/
def GClaim.kind : GClaim → GClaim.Kind
  | .rom _ => .rom
  | .eram _ => .eram
  | .lcdc => .lcdc
  | _ => .other

theorem ioClaim_kind_nibbles : ∀ h l : Fin 16,
    (ioClaim (16 * h + l)).kind = if 16 * h.val + l.val = 0x40 then .lcdc else .other := by decide

theorem ioClaim_kind {i : Nat} (h : i < 0x100) : (ioClaim i).kind = if i = 0x40 then .lcdc else .other := by
  have := ioClaim_kind_nibbles ⟨i / 16, by omega⟩ ⟨i % 16, by omega⟩
  rwa [show 16 * (i / 16) + i % 16 = i by omega] at this

/-- Where those claims stand (R93, R97). -/
theorem gClaim_kind (a : Word) : (gClaim a).kind =
    if a.toNat < 0x8000 then .rom
    else if 0xA000 ≤ a.toNat ∧ a.toNat < 0xC000 then .eram
    else if a.toNat = 0xFF40 then .lcdc else .other := by
  have ha := a.isLt
  have hio (h : 0xFF00 ≤ a.toNat) := ioClaim_kind (i := a.toNat - 0xFF00) (by omega)
  unfold gClaim
  dsimp only
  by_cases h : 0xFF00 ≤ a.toNat
  · split_ifs <;> try omega
    · rw [hio h, if_pos (by omega)]
    · rw [hio h, if_neg (by omega)]
  · split_ifs <;> first | omega | rfl

namespace GStack

/-- What decides which byte an address reaches: LCDC and the mode, the cartridge, and in its RAM the bank registers. -/
theorem cellOf_congr {g m : GStack} (hl : m.ppu.lcdc = g.ppu.lcdc) (hm : m.ppu.mode = g.ppu.mode)
    (hc : m.cart = g.cart) {a : Word} (hb : (gClaim a).kind = .eram → m.mbc = g.mbc) (k : BusMaster) :
    m.cellOf k a = g.cellOf k a := by
  have hv : m.vramBlocked = g.vramBlocked := by simp only [vramBlocked, GPpu.lcdOn, hl, hm]
  have ho : m.oamBlocked = g.oamBlocked := by simp only [oamBlocked, GPpu.lcdOn, hl, hm]
  unfold cellOf
  generalize gClaim a = c at hb
  cases c
  case vram => simp only [hv]
  case oam => simp only [ho]
  case eram off =>
    have he : m.eramOpen = g.eramOpen := by rw [eramOpen, eramOpen, hc, hb rfl]
    have hf : m.eramOffset off = g.eramOffset off := by rw [eramOffset, eramOffset, hc, hb rfl]
    simp only [he, hf]
  all_goals rfl

theorem poke_keeps (g : GStack) (c : GCell) (v : Byte) :
    (g.poke c v).ppu = g.ppu ∧ (g.poke c v).mbc = g.mbc ∧ (g.poke c v).cart = g.cart := by
  obtain ⟨r, o⟩ := c
  cases r <;> exact ⟨rfl, rfl, rfl⟩

/-- A register write changes a bank register only in 0x0000 to 0x7FFF, LCDC and the mode only at 0xFF40. -/
theorem writeRegister_keeps (g : GStack) {a : Word} (v : Byte) (hl : (gClaim a).kind ≠ .lcdc) :
    (g.writeRegister a v).ppu.lcdc = g.ppu.lcdc ∧ (g.writeRegister a v).ppu.mode = g.ppu.mode ∧
      (g.writeRegister a v).cart = g.cart ∧ ((gClaim a).kind ≠ .rom → (g.writeRegister a v).mbc = g.mbc) := by
  unfold writeRegister
  generalize gClaim a = c at hl
  cases c
  case rom k =>
    dsimp only
    rw [mbcWrite_after]
    exact ⟨rfl, rfl, rfl, fun h => absurd rfl h⟩
  case lcdc => exact absurd rfl hl
  all_goals exact ⟨rfl, rfl, rfl, fun _ => rfl⟩

/-- A store leaves alone which byte the address before or after it reaches: no register stands beside the storage that
it opens, closes or switches. -/
theorem cellOf_write_neighbour (g : GStack) {a b : Word} (v : Byte) (hab : b = a + 1 ∨ a = b + 1) :
    (g.write a v).cellOf .cpu b = g.cellOf .cpu b := by
  have ka := gClaim_kind a
  have kb := gClaim_kind b
  unfold write
  split
  case h_1 c _ =>
    obtain ⟨hp, hm, hc⟩ := g.poke_keeps c v
    exact cellOf_congr (by rw [hp]) (by rw [hp]) hc (fun _ => hm) _
  case h_2 =>
    by_cases hl : a.toNat = 0xFF40
    · obtain rfl : a = 0xFF40 := BitVec.eq_of_toNat_eq hl
      obtain rfl | rfl : b = 0xFF41 ∨ b = 0xFF3F := by bv_omega
      · rfl
      · rfl
    · obtain ⟨h1, h2, h3, h4⟩ := g.writeRegister_keeps (a := a) v (by rw [ka]; split_ifs <;> simp)
      refine cellOf_congr h1 h2 h3 (fun he => h4 fun hr => ?_) _
      rw [hr] at ka
      rw [he] at kb
      split_ifs at ka kb
      bv_omega

end GStack

end Sys2Proof.Machine
end

section
/-! Proofs. The same for the SM83: what an Operation of R310 does to the bus and the registers. -/

open Sys2Proof.Stated

namespace Sys2Proof.Machine

/-- What only EI, DI, RETI and the illegal opcodes change of the core: `IME` and its delay (R34, R35), and the fault
state (R27). -/
structure Sm83.SameStatus (r r' : Sm83) : Prop where
  ime : r'.ime = r.ime
  imeDelay : r'.imeDelay = r.imeDelay
  faulted : r'.faulted = r.faulted
  faultInfo : r'.faultInfo = r.faultInfo

namespace Sm83.SameStatus

theorem trans {r r' r'' : Sm83} (h : r.SameStatus r') (h' : r'.SameStatus r'') : r.SameStatus r'' :=
  ⟨h'.ime.trans h.ime, h'.imeDelay.trans h.imeDelay, h'.faulted.trans h.faulted, h'.faultInfo.trans h.faultInfo⟩

theorem setReg8 (r : Sm83) (v : Byte) (x : R8) : r.SameStatus (r.setReg8 v x) := by
  cases x <;> exact ⟨rfl, rfl, rfl, rfl⟩

theorem set16 (r : Sm83) (v : Word) (x : R16) : r.SameStatus (r.set16 v x) := by
  cases x <;> exact ⟨rfl, rfl, rfl, rfl⟩

theorem set16Stk (r : Sm83) (v : Word) (x : R16Stk) : r.SameStatus (r.set16Stk v x) := by
  cases x <;> exact ⟨rfl, rfl, rfl, rfl⟩

end Sm83.SameStatus

/-- `g.Reaches l m`: `m` comes from `g` by reads of the bus, changes of registers that keep `IME`, its delay and the
fault state, charges of 4 to 24 cycles (R503), and stores to the addresses `l`, in this order. -/
inductive GStack.Reaches (g : GStack) : List Word → GStack → Prop where
  | here : g.Reaches [] g
  | read {l : List Word} {m : GStack} (a : Word) (h : g.Reaches l m) : g.Reaches l (m.read a).2
  | regs {l : List Word} {m : GStack} (r : Sm83) (h : g.Reaches l m) (hr : m.cpu.SameStatus r) :
      g.Reaches l { m with cpu := r }
  | charge {l : List Word} {m : GStack} (k : Nat) (hk : 4 ≤ k ∧ k ≤ 24) (h : g.Reaches l m) :
      g.Reaches l { m with cycles := k }
  | write {l : List Word} {m : GStack} (a : Word) (v : Byte) (h : g.Reaches l m) :
      g.Reaches (l ++ [a]) (m.write a v)

/-- The store addresses of an SM83 instruction: none, one, or two side by side. -/
inductive StoreList : List Word → Prop where
  | none : StoreList []
  | one (a : Word) : StoreList [a]
  | two (a b : Word) (h : b = a + 1 ∨ a = b + 1) : StoreList [a, b]

namespace GStack

namespace Reaches

variable {g m : GStack} {l : List Word}

theorem cpu_same (h : g.Reaches l m) : g.cpu.SameStatus m.cpu := by
  induction h with
  | here => exact ⟨rfl, rfl, rfl, rfl⟩
  | read a _ ih => rwa [read_cpu]
  | regs r _ hr ih => exact ih.trans hr
  | charge k _ _ ih => exact ih
  | write a v _ ih => rwa [write_cpu]

theorem cart_eq (h : g.Reaches l m) : m.cart = g.cart := by
  induction h with
  | here => rfl
  | read a _ ih => rwa [read_cart]
  | regs r _ _ ih => exact ih
  | charge k _ _ ih => exact ih
  | write a v _ ih => rwa [write_cart]

theorem frame_eq (h : g.Reaches l m) : m.frame = g.frame := by
  induction h with
  | here => rfl
  | read a _ ih => rwa [read_frame]
  | regs r _ _ ih => exact ih
  | charge k _ _ ih => exact ih
  | write a v _ ih => rwa [write_frame]

/-- Cycles once charged stay 4 to 24. -/
theorem cycles_range (h : g.Reaches l m) (hg : 4 ≤ g.cycles ∧ g.cycles ≤ 24) : 4 ≤ m.cycles ∧ m.cycles ≤ 24 := by
  induction h with
  | here => exact hg
  | read a _ ih => rwa [read_cycles]
  | regs r _ _ ih => exact ih
  | charge k hk _ _ => exact hk
  | write a v _ ih => rwa [write_cycles]

/-- Without a store every memory, device register and bank register stays (R113). -/
theorem eq_of_no_store (h : g.Reaches l m) (hl : l = []) :
    m = { g with cpu := m.cpu, cycles := m.cycles, apuPort := m.apuPort } := by
  induction h with
  | here => rfl
  | read a _ ih => rw [read_after, ih hl]
  | regs r _ _ ih => rw [ih hl]
  | charge k _ _ ih => rw [ih hl]
  | write a v _ _ => simp at hl

theorem inv (h : g.Reaches l m) (hg : g.Inv) : m.Inv := by
  induction h with
  | here => exact hg
  | read a _ ih => exact ih.read a
  | regs r _ hr ih =>
    exact { ih with
      imeDelay := by rw [hr.imeDelay]; exact ih.imeDelay
      fault := by rw [hr.faulted, hr.faultInfo]; exact ih.fault }
  | charge k _ _ ih => exact { ih with }
  | write a v _ ih => exact ih.write a v

theorem trans {m' : GStack} {l' : List Word} (h : g.Reaches l m) (h' : m.Reaches l' m') : g.Reaches (l ++ l') m' := by
  induction h' with
  | here => rwa [List.append_nil]
  | read a _ ih => exact ih.read a
  | regs r _ hr ih => exact ih.regs r hr
  | charge k hk _ ih => exact ih.charge k hk
  | write a v _ ih => rw [← List.append_assoc]; exact ih.write a v

theorem cellOf_eq_of_no_store (h : g.Reaches [] m) (k : BusMaster) (b : Word) : m.cellOf k b = g.cellOf k b := by
  rw [h.eq_of_no_store rfl]
  exact cellOf_congr rfl rfl rfl (fun _ => rfl) k

/-- After one store the bus reaches the same byte at a neighbour of its address. -/
theorem cellOf_eq_of_one_store (h : g.Reaches l m) {a b : Word} (hl : l = [a]) (hab : b = a + 1 ∨ a = b + 1) :
    m.cellOf .cpu b = g.cellOf .cpu b := by
  induction h with
  | here => cases hl
  | read c _ ih =>
    rw [← ih hl, read_after]
    exact cellOf_congr rfl rfl rfl (fun _ => rfl) _
  | regs r _ _ ih => exact (cellOf_congr rfl rfl rfl (fun _ => rfl) _).trans (ih hl)
  | charge k _ _ ih => exact (cellOf_congr rfl rfl rfl (fun _ => rfl) _).trans (ih hl)
  | write c v h _ =>
    obtain ⟨rfl, ha⟩ := List.append_inj' (t₁ := [c]) (s₂ := []) (t₂ := [a]) hl rfl
    cases ha
    rw [cellOf_write_neighbour _ v hab, h.cellOf_eq_of_no_store]

/-- A byte of storage that none of the stores reaches, seen from the state before them, is unchanged. -/
theorem peek_eq {c : GCell} (h : g.Reaches l m) (hl : StoreList l) (hc : ∀ a ∈ l, g.cellOf .cpu a ≠ some c) :
    m.peek c = g.peek c := by
  induction h with
  | here => rfl
  | read a _ ih => exact (congrArg (·.peek c) (read_after _ a)).trans (ih hl hc)
  | regs r _ _ ih => exact ih hl hc
  | charge k _ _ ih => exact ih hl hc
  | @write l' m' a v h ih =>
    have ha : m'.cellOf .cpu a = g.cellOf .cpu a ∧ StoreList l' := by
      generalize he : l' ++ [a] = l'' at hl
      cases hl with
      | none => simp at he
      | one b =>
        obtain ⟨rfl, -⟩ := List.append_inj' (t₁ := [a]) (s₂ := []) (t₂ := [b]) he rfl
        exact ⟨h.cellOf_eq_of_no_store _ _, .none⟩
      | two b d hbd =>
        obtain ⟨rfl, hd⟩ := List.append_inj' (t₁ := [a]) (s₂ := [b]) (t₂ := [d]) he rfl
        cases hd
        exact ⟨h.cellOf_eq_of_one_store rfl hbd, .one b⟩
    obtain ⟨ha, hl'⟩ := ha
    refine (peek_write_ne _ a v ?_).trans (ih hl' fun b hb => hc b (List.mem_append_left _ hb))
    rw [ha]
    exact hc a (List.mem_append_right _ (List.mem_singleton_self a))

end Reaches

end GStack

end Sys2Proof.Machine
end

section
/-! Proofs. Every SM83 instruction is one such chain, but for EI, DI, RETI and the illegal opcodes. -/

open Sys2Proof.Stated

namespace Sys2Proof

/-- The store of `Set8(r, ·)`: at the address `adr` in `HL` for `(HL)`, none for a register (R311). -/
def R8.stores : R8 → Word → List Word
  | .mHL, adr => [adr]
  | _, _ => []

end Sys2Proof

namespace Sys2Proof.Machine

namespace GStack

namespace Reaches

variable {g m : GStack} {l : List Word}

theorem mapCpu {f : Sm83 → Sm83} (h : g.Reaches l m) (hf : ∀ r, Sm83.SameStatus r (f r)) :
    g.Reaches l (m.mapCpu f) :=
  h.regs _ (hf _)

theorem jump (h : g.Reaches l m) (a : Word) : g.Reaches l (m.jump a) := h.mapCpu fun _ => ⟨rfl, rfl, rfl, rfl⟩

theorem get8 (h : g.Reaches l m) (r : R8) : g.Reaches l (m.get8 r).2 := by
  unfold GStack.get8
  split
  · exact h
  · exact h.read _

theorem set8 (h : g.Reaches l m) (r : R8) (v : Byte) : g.Reaches (l ++ r.stores m.cpu.hl) (m.set8 r v) := by
  cases r
  case mHL => exact h.write _ v
  all_goals
    simp only [R8.stores, List.append_nil]
    exact h.mapCpu fun _ => Sm83.SameStatus.setReg8 ..

/-- A byte read through an `r8` field and one written through another (R311). -/
theorem get8_set8 (h : g.Reaches [] m) (src dst : R8) (v : Byte) :
    g.Reaches (dst.stores m.cpu.hl) ((m.get8 src).2.set8 dst v) := by
  have := (h.get8 src).set8 dst v
  rwa [get8_cpu] at this

theorem modify8 (h : g.Reaches [] m) (r : R8) (op : Sm83Flags → Byte → Byte × Sm83Flags) :
    g.Reaches (r.stores m.cpu.hl) (m.modify8 r op) :=
  (h.get8_set8 r r _).regs _ (by exact ⟨rfl, rfl, rfl, rfl⟩)

theorem loadA (h : g.Reaches l m) (a : Word) : g.Reaches l (m.loadA a) :=
  (h.read a).mapCpu fun _ => Sm83.SameStatus.setReg8 ..

theorem memStep (h : g.Reaches l m) (x : R16Mem) : g.Reaches l (m.memStep x) := by
  cases x
  case bc | de => exact h
  case hlInc | hlDec => exact h.regs _ (Sm83.SameStatus.set16 _ _ .hl)

/-- `Push16` stores two bytes below `SP` (R350). -/
theorem push16 (h : g.Reaches [] m) (v : Word) : g.Reaches [m.cpu.sp - 1, m.cpu.sp - 2] (m.push16 v) :=
  ((h.write _ _).write _ _).regs _ (by exact ⟨rfl, rfl, rfl, rfl⟩)

theorem pop16 (h : g.Reaches l m) : g.Reaches l m.pop16.2 :=
  ((h.read _).read _).regs _ (by exact ⟨rfl, rfl, rfl, rfl⟩)

theorem popPc (h : g.Reaches l m) : g.Reaches l m.popPc := h.pop16.jump _

theorem callTo (h : g.Reaches [] m) (a : Word) : g.Reaches [m.cpu.sp - 1, m.cpu.sp - 2] (m.callTo a) :=
  (h.push16 _).jump a

/-- A conditional transfer stores what it stores when taken (R310, R430). -/
theorem ifCond {f : GStack → GStack} {stores : Sm83 → List Word} (hf : ∀ g : GStack, g.Reaches (stores g.cpu) (f g))
    (cc : Cond) {taken : Nat} (ht : 4 ≤ taken ∧ taken ≤ 24) (g : GStack) :
    g.Reaches (if condHolds cc g.cpu.f then stores g.cpu else []) (GStack.ifCond cc taken f g) := by
  unfold GStack.ifCond
  split
  · exact (here.charge taken ht).trans (hf _)
  · exact here

theorem ifCond_of_no_store {f : GStack → GStack} (hf : ∀ g : GStack, g.Reaches [] (f g))
    (cc : Cond) {taken : Nat} (ht : 4 ≤ taken ∧ taken ≤ 24) (g : GStack) :
    g.Reaches [] (GStack.ifCond cc taken f g) := by
  have := ifCond (stores := fun _ => []) hf cc ht g
  rwa [ite_self] at this

end Reaches

/-- What the meaning of an SM83 instruction is: a chain that stores where the rule of `i` says, from the state with
`PC` advanced and the cost charged (R310); one of the three instructions that write `IME` or its delay; or the fault
of an illegal opcode, which stores nothing (R447). -/
inductive Meaning : Instr → (GStack → GStack) → Prop where
  | plain {i : Instr} (len cost : Nat) (op : GStack → GStack) (hc : 4 ≤ cost ∧ cost ≤ 24)
      (hr : ∀ g : GStack, (g.start len cost).Reaches (gStores i g.cpu) (op (g.start len cost))) :
      Meaning i (instr len cost op)
  | ei : Meaning .ei GStack.ei
  | di : Meaning .di GStack.di
  | reti : Meaning .reti GStack.reti
  | illegal {i : Instr} (op : Byte) (hs : gStores i = fun _ => []) : Meaning i (GStack.illegal op)

namespace Meaning

variable {i : Instr}

open Reaches (here)

/-- An instruction on the registers alone. -/
theorem regs {f : Sm83 → Sm83} {len cost : Nat} (hc : 4 ≤ cost ∧ cost ≤ 24) (hf : ∀ r, Sm83.SameStatus r (f r))
    (hs : gStores i = fun _ => []) : Meaning i (instr len cost fun g => g.mapCpu f) :=
  .plain _ _ _ hc fun g => by rw [hs]; exact here.mapCpu hf

/-- An instruction that ends in a jump without a push. -/
theorem ofNoStore {op : GStack → GStack} {len cost : Nat} (hc : 4 ≤ cost ∧ cost ≤ 24)
    (hs : gStores i = fun _ => []) (hr : ∀ g : GStack, g.Reaches [] (op g)) : Meaning i (instr len cost op) :=
  .plain _ _ _ hc fun g => by rw [hs]; exact hr _

theorem ldRR (dst src : R8) (hs : gStores i = fun r => dst.stores r.hl) : Meaning i (ldRR dst src) :=
  .plain _ _ _ (by decide) fun g => by rw [hs]; exact here.get8_set8 src dst _

theorem ldRD8 (dst : R8) (v : Byte) (hs : gStores i = fun r => dst.stores r.hl) : Meaning i (ldRD8 dst v) :=
  .plain _ _ _ (by decide) fun g => by rw [hs]; exact here.set8 dst v

theorem ldRMem (dst : R8) (hs : gStores i = fun r => dst.stores r.hl) : Meaning i (ldRMem dst) :=
  .plain _ _ _ (by decide) fun g => by rw [hs]; exact here.get8_set8 .mHL dst _

theorem ldMemR (src : R8) (hs : gStores i = fun r => [r.hl]) : Meaning i (ldMemR src) :=
  .plain _ _ _ (by decide) fun g => by rw [hs]; exact (here.get8 src).write _ _

theorem ldMemD8 (v : Byte) (hs : gStores i = fun r => [r.hl]) : Meaning i (ldMemD8 v) :=
  .plain _ _ _ (by decide) fun g => by rw [hs]; exact here.write _ v

theorem ldAMem (x : R16Mem) (hs : gStores i = fun _ => []) : Meaning i (ldAMem x) :=
  .ofNoStore (by decide) hs fun _ => (here.loadA _).memStep x

theorem ldMemA (x : R16Mem) (hs : ∀ g : GStack, gStores i g.cpu = [(g.start 1 8).memAddr x]) : Meaning i (ldMemA x) :=
  .plain _ _ _ (by decide) fun g => by rw [hs]; exact (here.write _ _).memStep x

theorem ldAAddr {len cost : Nat} (a : GStack → Word) (hc : 4 ≤ cost ∧ cost ≤ 24) (hs : gStores i = fun _ => []) :
    Meaning i (ldAAddr len cost a) :=
  .ofNoStore hc hs fun _ => here.loadA _

theorem ldAddrA {len cost : Nat} (a : GStack → Word) (hc : 4 ≤ cost ∧ cost ≤ 24)
    (hs : ∀ g : GStack, gStores i g.cpu = [a (g.start len cost)]) : Meaning i (ldAddrA len cost a) :=
  .plain _ _ _ hc fun g => by rw [hs]; exact here.write _ _

theorem ldAddrSp (a : Word) (hs : gStores i = fun _ => [a, a + 1]) : Meaning i (ldAddrSp a) :=
  .plain _ _ _ (by decide) fun g => by rw [hs]; exact (here.write _ _).write _ _

theorem push (rr : R16Stk) (hs : gStores i = fun r => [r.sp - 1, r.sp - 2]) : Meaning i (push rr) :=
  .plain _ _ _ (by decide) fun g => by rw [hs]; exact here.push16 _

theorem pop (rr : R16Stk) (hs : gStores i = fun _ => []) : Meaning i (pop rr) :=
  .ofNoStore (by decide) hs fun _ => here.pop16.mapCpu fun _ => Sm83.SameStatus.set16Stk ..

theorem aluR (op : AluOp) (r : R8) (hs : gStores i = fun _ => []) : Meaning i (aluR op r) :=
  .ofNoStore (by split_ifs <;> decide) hs fun _ => (here.get8 r).mapCpu fun _ => ⟨rfl, rfl, rfl, rfl⟩

theorem aluD8 (op : AluOp) (v : Byte) (hs : gStores i = fun _ => []) : Meaning i (aluD8 op v) :=
  .ofNoStore (by decide) hs fun _ => here.mapCpu fun _ => ⟨rfl, rfl, rfl, rfl⟩

theorem incR (r : R8) (hs : gStores i = fun c => r.stores c.hl) : Meaning i (incR r) :=
  .plain _ _ _ (by split_ifs <;> decide) fun g => by rw [hs]; exact here.modify8 r inc8

theorem decR (r : R8) (hs : gStores i = fun c => r.stores c.hl) : Meaning i (decR r) :=
  .plain _ _ _ (by split_ifs <;> decide) fun g => by rw [hs]; exact here.modify8 r dec8

theorem cbRot (op : RotOp) (r : R8) (hs : gStores i = fun c => r.stores c.hl) : Meaning i (cbRot op r) :=
  .plain _ _ _ (by split_ifs <;> decide) fun g => by rw [hs]; exact here.modify8 r _

theorem cbBit (b : Nat) (r : R8) (hs : gStores i = fun _ => []) : Meaning i (cbBit b r) :=
  .ofNoStore (by split_ifs <;> decide) hs fun _ => (here.get8 r).mapCpu fun _ => ⟨rfl, rfl, rfl, rfl⟩

theorem cbRes (b : Nat) (r : R8) (hs : gStores i = fun c => r.stores c.hl) : Meaning i (cbRes b r) :=
  .plain _ _ _ (by split_ifs <;> decide) fun g => by rw [hs]; exact here.get8_set8 r r _

theorem cbSet (b : Nat) (r : R8) (hs : gStores i = fun c => r.stores c.hl) : Meaning i (cbSet b r) :=
  .plain _ _ _ (by split_ifs <;> decide) fun g => by rw [hs]; exact here.get8_set8 r r _

theorem jp (a : Word) (hs : gStores i = fun _ => []) : Meaning i (jp a) :=
  .ofNoStore (by decide) hs fun _ => here.jump a

theorem jpCc (cc : Cond) (a : Word) (hs : gStores i = fun _ => []) : Meaning i (jpCc cc a) :=
  .ofNoStore (by decide) hs (Reaches.ifCond_of_no_store (fun _ => here.jump a) cc (by decide))

theorem jpHl (hs : gStores i = fun _ => []) : Meaning i jpHl := .ofNoStore (by decide) hs fun _ => here.jump _

theorem jr (b1 : Byte) (hs : gStores i = fun _ => []) : Meaning i (jr b1) :=
  .ofNoStore (by decide) hs fun _ => here.jump _

theorem jrCc (cc : Cond) (b1 : Byte) (hs : gStores i = fun _ => []) : Meaning i (jrCc cc b1) :=
  .ofNoStore (by decide) hs (Reaches.ifCond_of_no_store (fun _ => here.jump _) cc (by decide))

theorem call (a : Word) (hs : gStores i = fun r => [r.sp - 1, r.sp - 2]) : Meaning i (call a) :=
  .plain _ _ _ (by decide) fun g => by rw [hs]; exact here.callTo a

theorem callCc (cc : Cond) (a : Word)
    (hs : gStores i = fun r => if condHolds cc r.f then [r.sp - 1, r.sp - 2] else []) : Meaning i (callCc cc a) :=
  .plain _ _ _ (by decide) fun g => by
    rw [hs]
    exact Reaches.ifCond (stores := fun r => [r.sp - 1, r.sp - 2]) (fun _ => here.callTo a) cc (by decide) _

theorem ret (hs : gStores i = fun _ => []) : Meaning i ret := .ofNoStore (by decide) hs fun _ => here.popPc

theorem retCc (cc : Cond) (hs : gStores i = fun _ => []) : Meaning i (retCc cc) :=
  .ofNoStore (by decide) hs (Reaches.ifCond_of_no_store (fun _ => here.popPc) cc (by decide))

theorem rst (a : Word) (hs : gStores i = fun r => [r.sp - 1, r.sp - 2]) : Meaning i (rst a) :=
  .plain _ _ _ (by decide) fun g => by rw [hs]; exact here.callTo a

theorem nop (hs : gStores i = fun _ => []) : Meaning i nop := .ofNoStore (by decide) hs fun _ => here

theorem ldRrD16 (rr : R16) (v : Word) (hs : gStores i = fun _ => []) : Meaning i (ldRrD16 rr v) :=
  .regs (by decide) (fun _ => .set16 ..) hs

theorem incRr (rr : R16) (hs : gStores i = fun _ => []) : Meaning i (incRr rr) :=
  .regs (by decide) (fun _ => .set16 ..) hs

theorem decRr (rr : R16) (hs : gStores i = fun _ => []) : Meaning i (decRr rr) :=
  .regs (by decide) (fun _ => .set16 ..) hs

theorem addHlRr (rr : R16) (hs : gStores i = fun _ => []) : Meaning i (addHlRr rr) :=
  .regs (by decide) (by exact fun _ => ⟨rfl, rfl, rfl, rfl⟩) hs

theorem addSpR8 (b1 : Byte) (hs : gStores i = fun _ => []) : Meaning i (addSpR8 b1) :=
  .regs (by decide) (by exact fun _ => ⟨rfl, rfl, rfl, rfl⟩) hs

theorem ldHlSp (b1 : Byte) (hs : gStores i = fun _ => []) : Meaning i (ldHlSp b1) :=
  .regs (by decide) (by exact fun _ => ⟨rfl, rfl, rfl, rfl⟩) hs

theorem ldSpHl (hs : gStores i = fun _ => []) : Meaning i ldSpHl :=
  .regs (by decide) (by exact fun _ => ⟨rfl, rfl, rfl, rfl⟩) hs

theorem onRegs {f : Sm83 → Sm83} (hf : ∀ r, Sm83.SameStatus r (f r)) (hs : gStores i = fun _ => []) :
    Meaning i (onRegs f) :=
  .regs (by decide) hf hs

theorem rotA (op : RotOp) (hs : gStores i = fun _ => []) : Meaning i (rotA op) :=
  .onRegs (by exact fun _ => ⟨rfl, rfl, rfl, rfl⟩) hs

theorem halt (hs : gStores i = fun _ => []) : Meaning i halt :=
  .regs (by decide) (by exact fun _ => ⟨rfl, rfl, rfl, rfl⟩) hs

theorem stop (hs : gStores i = fun _ => []) : Meaning i stop :=
  .regs (by decide) (by exact fun _ => ⟨rfl, rfl, rfl, rfl⟩) hs

end Meaning

end GStack

end Sys2Proof.Machine
end

section
/-! Proofs. The classification of the SM83 instructions, and the frame of each. -/

open Sys2Proof.Stated

namespace Sys2Proof.Machine

namespace GStack

theorem highPage_eq (v : Byte) : highPage v = BitVec.ofNat 16 (0xFF00 + v.toNat) := by
  apply BitVec.eq_of_toNat_eq
  simp [highPage]

theorem ofField_eq_mHL_iff : ∀ y : BitVec 3, R8.ofField y = .mHL ↔ y.toNat = 6 := by decide

theorem stores_eq_ite (r : R8) (adr : Word) : r.stores adr = if r = .mHL then [adr] else [] := by cases r <;> rfl

/-- The field `x` of a byte of the second table as a number (R164). -/
theorem cbField_eq_one_iff (cbop : Byte) : cbop.extractLsb' 6 2 = 1 ↔ cbop.toNat / 64 = 1 := by
  have hb := cbop.isLt
  rw [← BitVec.toNat_inj, BitVec.extractLsb'_toNat, Nat.shiftRight_eq_div_pow, Nat.mod_eq_of_lt (by omega)]
  rfl

/-- A rotate, RES or SET of the second table stores to `(HL)` as its field `z` says (R164, R470). -/
theorem gStores_prefixCB {cbop : Byte} (h : cbop.extractLsb' 6 2 ≠ 1) :
    gStores (.prefixCB cbop) = fun r => (R8.ofField (cbop.extractLsb' 0 3)).stores r.hl := by
  rw [ne_eq, cbField_eq_one_iff] at h
  have hz : (cbop.extractLsb' 0 3).toNat = cbop.toNat % 8 := by rw [BitVec.extractLsb'_toNat, Nat.shiftRight_zero]
  funext r
  rw [stores_eq_ite]
  exact if_congr (by rw [ofField_eq_mHL_iff, hz]; exact and_iff_left h) rfl rfl

/-- BIT stores nothing (R479). -/
theorem gStores_prefixCB_bit {cbop : Byte} (h : cbop.extractLsb' 6 2 = 1) :
    gStores (.prefixCB cbop) = fun _ => [] := by
  rw [cbField_eq_one_iff] at h
  funext r
  exact if_neg fun hn => hn.2 h

/-- The entry of the second table stores as its fields say (R470). -/
theorem Meaning.cbEntry (cbop : Byte) : Meaning (.prefixCB cbop) (cbEntry cbop) := by
  unfold GStack.cbEntry
  dsimp only
  split_ifs with h0 h1 h2
  · exact .cbRot _ _ (gStores_prefixCB (by rw [h0]; decide))
  · exact .cbBit _ _ (gStores_prefixCB_bit h1)
  · exact .cbRes _ _ (gStores_prefixCB h1)
  · exact .cbSet _ _ (gStores_prefixCB h1)

end GStack

open GStack in
/-- The meaning of an SM83 instruction (R310). -/
theorem exec_sm83 {i : Instr} (h : i.stack = .gStack) : ∃ f, (∀ s, exec i s = s.onG f) ∧ Meaning i f := by
  cases i
  case ld_B_B | ld_B_C | ld_B_D | ld_B_E | ld_B_H | ld_B_L | ld_B_A | ld_C_B | ld_C_C | ld_C_D | ld_C_E |
    ld_C_H | ld_C_L | ld_C_A | ld_D_B | ld_D_C | ld_D_D | ld_D_E | ld_D_H | ld_D_L | ld_D_A | ld_E_B | ld_E_C |
    ld_E_D | ld_E_E | ld_E_H | ld_E_L | ld_E_A | ld_H_B | ld_H_C | ld_H_D | ld_H_E | ld_H_H | ld_H_L | ld_H_A |
    ld_L_B | ld_L_C | ld_L_D | ld_L_E | ld_L_H | ld_L_L | ld_L_A | ld_A_B | ld_A_C | ld_A_D | ld_A_E | ld_A_H |
    ld_A_L | ld_A_A =>
    exact ⟨_, fun _ => rfl, .ldRR _ _ rfl⟩
  case ld_B_d8 | ld_C_d8 | ld_D_d8 | ld_E_d8 | ld_H_d8 | ld_L_d8 | ld_A_d8 =>
    exact ⟨_, fun _ => rfl, .ldRD8 _ _ rfl⟩
  case ld_B_mHL | ld_C_mHL | ld_D_mHL | ld_E_mHL | ld_H_mHL | ld_L_mHL | ld_A_mHL =>
    exact ⟨_, fun _ => rfl, .ldRMem _ rfl⟩
  case ld_mHL_B | ld_mHL_C | ld_mHL_D | ld_mHL_E | ld_mHL_H | ld_mHL_L | ld_mHL_A =>
    exact ⟨_, fun _ => rfl, .ldMemR _ rfl⟩
  case ld_mHL_d8 => exact ⟨_, fun _ => rfl, .ldMemD8 _ rfl⟩
  case ld_A_mBC | ld_A_mDE | ld_A_mHLinc | ld_A_mHLdec => exact ⟨_, fun _ => rfl, .ldAMem _ rfl⟩
  case ld_mBC_A | ld_mDE_A | ld_mHLinc_A | ld_mHLdec_A => exact ⟨_, fun _ => rfl, .ldMemA _ fun _ => rfl⟩
  case ldh_A_ma8 | ld_A_mC | ld_A_ma16 => exact ⟨_, fun _ => rfl, .ldAAddr _ (by decide) rfl⟩
  case ldh_ma8_A a =>
    exact ⟨_, fun _ => rfl, .ldAddrA (fun _ => highPage a) (by decide) fun _ => by rw [highPage_eq]; rfl⟩
  case ld_mC_A =>
    exact ⟨_, fun _ => rfl, .ldAddrA (fun g => highPage g.cpu.c) (by decide) fun _ => by rw [highPage_eq]; rfl⟩
  case ld_ma16_A a => exact ⟨_, fun _ => rfl, .ldAddrA (fun _ => a) (by decide) fun _ => rfl⟩
  case ld_BC_d16 | ld_DE_d16 | ld_HL_d16 | ld_SP_d16 => exact ⟨_, fun _ => rfl, .ldRrD16 _ _ rfl⟩
  case ld_ma16_SP => exact ⟨_, fun _ => rfl, .ldAddrSp _ rfl⟩
  case ld_SP_HL => exact ⟨_, fun _ => rfl, .ldSpHl rfl⟩
  case ld_HL_SPr8 => exact ⟨_, fun _ => rfl, .ldHlSp _ rfl⟩
  case push_BC | push_DE | push_HL | push_AF => exact ⟨_, fun _ => rfl, .push _ rfl⟩
  case pop_BC | pop_DE | pop_HL | pop_AF => exact ⟨_, fun _ => rfl, .pop _ rfl⟩
  case add_A_B | add_A_C | add_A_D | add_A_E | add_A_H | add_A_L | add_A_mHL | add_A_A | adc_A_B | adc_A_C |
    adc_A_D | adc_A_E | adc_A_H | adc_A_L | adc_A_mHL | adc_A_A | sub_B | sub_C | sub_D | sub_E | sub_H |
    sub_L | sub_mHL | sub_A | sbc_A_B | sbc_A_C | sbc_A_D | sbc_A_E | sbc_A_H | sbc_A_L | sbc_A_mHL | sbc_A_A |
    and_B | and_C | and_D | and_E | and_H | and_L | and_mHL | and_A | xor_B | xor_C | xor_D | xor_E | xor_H |
    xor_L | xor_mHL | xor_A | or_B | or_C | or_D | or_E | or_H | or_L | or_mHL | or_A | cp_B | cp_C | cp_D |
    cp_E | cp_H | cp_L | cp_mHL | cp_A =>
    exact ⟨_, fun _ => rfl, .aluR _ _ rfl⟩
  case add_A_d8 | adc_A_d8 | sub_d8 | sbc_A_d8 | and_d8 | xor_d8 | or_d8 | cp_d8 =>
    exact ⟨_, fun _ => rfl, .aluD8 _ _ rfl⟩
  case inc_B | inc_C | inc_D | inc_E | inc_H | inc_L | inc_mHL | inc_A =>
    exact ⟨_, fun _ => rfl, .incR _ rfl⟩
  case dec_B | dec_C | dec_D | dec_E | dec_H | dec_L | dec_mHL | dec_A =>
    exact ⟨_, fun _ => rfl, .decR _ rfl⟩
  case rlca | rrca | rla | rra => exact ⟨_, fun _ => rfl, .rotA _ rfl⟩
  case daa | cpl | scf | ccf => exact ⟨_, fun _ => rfl, .onRegs (fun _ => ⟨rfl, rfl, rfl, rfl⟩) rfl⟩
  case add_HL_BC | add_HL_DE | add_HL_HL | add_HL_SP => exact ⟨_, fun _ => rfl, .addHlRr _ rfl⟩
  case inc_BC | inc_DE | inc_HL | inc_SP => exact ⟨_, fun _ => rfl, .incRr _ rfl⟩
  case dec_BC | dec_DE | dec_HL | dec_SP => exact ⟨_, fun _ => rfl, .decRr _ rfl⟩
  case add_SP_r8 => exact ⟨_, fun _ => rfl, .addSpR8 _ rfl⟩
  case jp_a16 => exact ⟨_, fun _ => rfl, .jp _ rfl⟩
  case jp_NZ_a16 | jp_Z_a16 | jp_NC_a16 | jp_C_a16 => exact ⟨_, fun _ => rfl, .jpCc _ _ rfl⟩
  case jp_HL => exact ⟨_, fun _ => rfl, .jpHl rfl⟩
  case jr_r8 => exact ⟨_, fun _ => rfl, .jr _ rfl⟩
  case jr_NZ_r8 | jr_Z_r8 | jr_NC_r8 | jr_C_r8 => exact ⟨_, fun _ => rfl, .jrCc _ _ rfl⟩
  case call_a16 => exact ⟨_, fun _ => rfl, .call _ rfl⟩
  case call_NZ_a16 | call_Z_a16 | call_NC_a16 | call_C_a16 => exact ⟨_, fun _ => rfl, .callCc _ _ rfl⟩
  case ret => exact ⟨_, fun _ => rfl, .ret rfl⟩
  case ret_NZ | ret_Z | ret_NC | ret_C => exact ⟨_, fun _ => rfl, .retCc _ rfl⟩
  case rst_00H | rst_08H | rst_10H | rst_18H | rst_20H | rst_28H | rst_30H | rst_38H =>
    exact ⟨_, fun _ => rfl, .rst _ rfl⟩
  case nop_sm83 => exact ⟨_, fun _ => rfl, .nop rfl⟩
  case halt => exact ⟨_, fun _ => rfl, .halt rfl⟩
  case stop => exact ⟨_, fun _ => rfl, .stop rfl⟩
  case ei => exact ⟨_, fun _ => rfl, .ei⟩
  case di => exact ⟨_, fun _ => rfl, .di⟩
  case reti => exact ⟨_, fun _ => rfl, .reti⟩
  case illegal_D3 | illegal_DB | illegal_DD | illegal_E3 | illegal_E4 | illegal_EB | illegal_EC | illegal_ED |
    illegal_F4 | illegal_FC | illegal_FD =>
    exact ⟨_, fun _ => rfl, .illegal _ rfl⟩
  case rlc_B | rlc_C | rlc_D | rlc_E | rlc_H | rlc_L | rlc_mHL | rlc_A | rrc_B | rrc_C | rrc_D | rrc_E |
    rrc_H | rrc_L | rrc_mHL | rrc_A | rl_B | rl_C | rl_D | rl_E | rl_H | rl_L | rl_mHL | rl_A | rr_B | rr_C |
    rr_D | rr_E | rr_H | rr_L | rr_mHL | rr_A | sla_B | sla_C | sla_D | sla_E | sla_H | sla_L | sla_mHL |
    sla_A | sra_B | sra_C | sra_D | sra_E | sra_H | sra_L | sra_mHL | sra_A | swap_B | swap_C | swap_D |
    swap_E | swap_H | swap_L | swap_mHL | swap_A | srl_B | srl_C | srl_D | srl_E | srl_H | srl_L | srl_mHL |
    srl_A =>
    exact ⟨_, fun _ => rfl, .cbRot _ _ rfl⟩
  case bit_0_B | bit_0_C | bit_0_D | bit_0_E | bit_0_H | bit_0_L | bit_0_mHL | bit_0_A | bit_1_B | bit_1_C |
    bit_1_D | bit_1_E | bit_1_H | bit_1_L | bit_1_mHL | bit_1_A | bit_2_B | bit_2_C | bit_2_D | bit_2_E |
    bit_2_H | bit_2_L | bit_2_mHL | bit_2_A | bit_3_B | bit_3_C | bit_3_D | bit_3_E | bit_3_H | bit_3_L |
    bit_3_mHL | bit_3_A | bit_4_B | bit_4_C | bit_4_D | bit_4_E | bit_4_H | bit_4_L | bit_4_mHL | bit_4_A |
    bit_5_B | bit_5_C | bit_5_D | bit_5_E | bit_5_H | bit_5_L | bit_5_mHL | bit_5_A | bit_6_B | bit_6_C |
    bit_6_D | bit_6_E | bit_6_H | bit_6_L | bit_6_mHL | bit_6_A | bit_7_B | bit_7_C | bit_7_D | bit_7_E |
    bit_7_H | bit_7_L | bit_7_mHL | bit_7_A =>
    exact ⟨_, fun _ => rfl, .cbBit _ _ rfl⟩
  case res_0_B | res_0_C | res_0_D | res_0_E | res_0_H | res_0_L | res_0_mHL | res_0_A | res_1_B | res_1_C |
    res_1_D | res_1_E | res_1_H | res_1_L | res_1_mHL | res_1_A | res_2_B | res_2_C | res_2_D | res_2_E |
    res_2_H | res_2_L | res_2_mHL | res_2_A | res_3_B | res_3_C | res_3_D | res_3_E | res_3_H | res_3_L |
    res_3_mHL | res_3_A | res_4_B | res_4_C | res_4_D | res_4_E | res_4_H | res_4_L | res_4_mHL | res_4_A |
    res_5_B | res_5_C | res_5_D | res_5_E | res_5_H | res_5_L | res_5_mHL | res_5_A | res_6_B | res_6_C |
    res_6_D | res_6_E | res_6_H | res_6_L | res_6_mHL | res_6_A | res_7_B | res_7_C | res_7_D | res_7_E |
    res_7_H | res_7_L | res_7_mHL | res_7_A =>
    exact ⟨_, fun _ => rfl, .cbRes _ _ rfl⟩
  case set_0_B | set_0_C | set_0_D | set_0_E | set_0_H | set_0_L | set_0_mHL | set_0_A | set_1_B | set_1_C |
    set_1_D | set_1_E | set_1_H | set_1_L | set_1_mHL | set_1_A | set_2_B | set_2_C | set_2_D | set_2_E |
    set_2_H | set_2_L | set_2_mHL | set_2_A | set_3_B | set_3_C | set_3_D | set_3_E | set_3_H | set_3_L |
    set_3_mHL | set_3_A | set_4_B | set_4_C | set_4_D | set_4_E | set_4_H | set_4_L | set_4_mHL | set_4_A |
    set_5_B | set_5_C | set_5_D | set_5_E | set_5_H | set_5_L | set_5_mHL | set_5_A | set_6_B | set_6_C |
    set_6_D | set_6_E | set_6_H | set_6_L | set_6_mHL | set_6_A | set_7_B | set_7_C | set_7_D | set_7_E |
    set_7_H | set_7_L | set_7_mHL | set_7_A =>
    exact ⟨_, fun _ => rfl, .cbSet _ _ rfl⟩
  case prefixCB => exact ⟨_, fun _ => rfl, .cbEntry _⟩
  all_goals cases h

end Sys2Proof.Machine
end

section
/-! Proofs. What follows for every SM83 instruction: its frame, its cycles, the fault state and the enable delay. -/

open Sys2Proof.Stated

namespace Sys2Proof.Machine

/-- An SM83 instruction stores to at most two addresses, side by side. -/
theorem gStores_storeList (i : Instr) (r : Sm83) : StoreList (gStores i r) := by
  have hpush : StoreList [r.sp - 1, r.sp - 2] := .two _ _ (by bv_omega)
  have hcond (b : Bool) : StoreList (if b then [r.sp - 1, r.sp - 2] else []) := by
    cases b
    · exact .none
    · exact hpush
  cases i
  case ld_mBC_A | ld_mDE_A | ld_mHLinc_A | ld_mHLdec_A | ld_mHL_d8 | ld_mHL_B | ld_mHL_C | ld_mHL_D | ld_mHL_E |
    ld_mHL_H | ld_mHL_L | ld_mHL_A | ldh_ma8_A | ld_mC_A | ld_ma16_A | inc_mHL | dec_mHL | rlc_mHL | rrc_mHL |
    rl_mHL | rr_mHL | sla_mHL | sra_mHL | swap_mHL | srl_mHL | res_0_mHL | res_1_mHL | res_2_mHL | res_3_mHL |
    res_4_mHL | res_5_mHL | res_6_mHL | res_7_mHL | set_0_mHL | set_1_mHL | set_2_mHL | set_3_mHL | set_4_mHL |
    set_5_mHL | set_6_mHL | set_7_mHL =>
    exact .one _
  case ld_ma16_SP => exact .two _ _ (.inl rfl)
  case push_BC | push_DE | push_HL | push_AF | call_a16 | rst_00H | rst_08H | rst_10H | rst_18H | rst_20H | rst_28H |
    rst_30H | rst_38H =>
    exact hpush
  case call_NZ_a16 | call_Z_a16 | call_NC_a16 | call_C_a16 => exact hcond _
  case prefixCB cbop =>
    change StoreList (cbStores cbop r)
    unfold cbStores
    split_ifs
    · exact .one _
    · exact .none
  all_goals exact .none

namespace GStack

theorem Reaches.start {g m : GStack} {l : List Word} (h : g.Reaches l m) (len : Nat) {cost : Nat}
    (hc : 4 ≤ cost ∧ cost ≤ 24) : g.Reaches l (m.start len cost) :=
  (h.regs { m.cpu with pc := m.cpu.pc + BitVec.ofNat 16 len } ⟨rfl, rfl, rfl, rfl⟩).charge cost hc

@[simp] theorem pop16_cycles (g : GStack) : g.pop16.2.cycles = g.cycles := by rw [pop16_after]

namespace Meaning

variable {i : Instr} {f : GStack → GStack}

/-- Off the registers and the cycle count, an instruction is its chain of bus accesses. -/
theorem frame (h : Meaning i f) (g : GStack) :
    ∃ m, g.Reaches (gStores i g.cpu) m ∧ f g = { m with cpu := (f g).cpu, cycles := (f g).cycles } := by
  cases h with
  | plain len cost op hc hr =>
    exact ⟨_, (Reaches.here.start len hc).trans (hr g), by rw [instr_eq]⟩
  | ei => exact ⟨g, .here, by rw [GStack.ei, instr_eq]; rfl⟩
  | di => exact ⟨g, .here, by rw [GStack.di, instr_eq]; rfl⟩
  | reti => exact ⟨_, (Reaches.here.start 1 (cost := 16) (by decide)).pop16, by rw [GStack.reti, instr_eq]; rfl⟩
  | illegal op hs => exact ⟨g, by rw [hs]; exact .here, rfl⟩

/-- An instruction faults and charges nothing, or leaves the fault state alone, charges 4 to 24 cycles and keeps the
delay in its range (R35, R447, R503). -/
theorem status (h : Meaning i f) (g : GStack) :
    (∃ op, f = GStack.illegal op) ∨
      ((4 ≤ (f g).cycles ∧ (f g).cycles ≤ 24) ∧ (f g).cpu.faulted = g.cpu.faulted ∧
        (f g).cpu.faultInfo = g.cpu.faultInfo ∧ (g.cpu.imeDelay ≤ 2 → (f g).cpu.imeDelay ≤ 2)) := by
  cases h with
  | plain len cost op hc hr =>
    have hs := (hr g).cpu_same
    refine .inr ?_
    rw [instr_eq]
    exact ⟨(hr g).cycles_range hc, hs.faulted, hs.faultInfo, fun hd =>
      (Nat.sub_le _ _).trans (hs.imeDelay.le.trans hd)⟩
  | ei =>
    refine .inr ?_
    rw [GStack.ei, instr_eq]
    refine ⟨⟨le_refl 4, by simp⟩, rfl, rfl, fun hd => ?_⟩
    have hs : (if g.cpu.imeDelay = 0 then 2 else g.cpu.imeDelay) ≤ 2 := by split_ifs <;> omega
    exact (Nat.sub_le _ _).trans hs
  | di =>
    refine .inr ?_
    rw [GStack.di, instr_eq]
    exact ⟨⟨le_refl 4, by simp⟩, rfl, rfl, fun _ => Nat.zero_le 2⟩
  | reti =>
    refine .inr ?_
    rw [GStack.reti, instr_eq]
    simp [returnFromInterrupt]
  | illegal op hs => exact .inl ⟨op, rfl⟩

/-- An armed delay ends with the instruction and sets `IME`, but for DI and a fault (R35). -/
theorem delay_over (h : Meaning i f) (hi : i ≠ .di) {g : GStack} (hc : (f g).cycles ≠ 0) (hd : g.cpu.imeDelay = 1) :
    (f g).cpu.ime = true ∧ (f g).cpu.imeDelay = 0 := by
  cases h with
  | plain len cost op _ hr =>
    have hs := (hr g).cpu_same
    have hd' : (op (g.start len cost)).cpu.imeDelay = 1 := hs.imeDelay.trans hd
    rw [instr_eq]
    simp [hd']
  | ei =>
    rw [GStack.ei, instr_eq]
    simp [hd]
  | di => exact absurd rfl hi
  | reti =>
    rw [GStack.reti, instr_eq]
    simp [returnFromInterrupt]
  | illegal op _ => exact absurd rfl hc

/-- Every instruction keeps the invariant of the machine. -/
theorem inv (h : Meaning i f) {g : GStack} (hg : g.Inv) : (f g).Inv := by
  obtain ⟨m, hr, hm⟩ := h.frame g
  have hi := hr.inv hg
  have hfault : (f g).cpu.faultInfo.isSome = (f g).cpu.faulted ∧ (f g).cpu.imeDelay ≤ 2 := by
    obtain ⟨op, rfl⟩ | ⟨-, hf, hfi, hd⟩ := h.status g
    · exact ⟨rfl, hg.imeDelay⟩
    · exact ⟨by rw [hf, hfi]; exact hg.fault, hd hg.imeDelay⟩
  rw [hm]
  exact { hi with imeDelay := hfault.2, fault := hfault.1 }

end Meaning

end GStack

end Sys2Proof.Machine
end

section
/-! Proofs. The frame of the SM83 instructions and the delay of EI. -/

open Sys2Proof.Machine Sys2Proof.Stated

namespace Sys2Proof.Proofs

/-- Settles O25: off the registers every SM83 instruction is a chain of bus accesses with the stores of its rule. -/
theorem sm83InstructionFrame : Obligations.Sm83InstructionFrame := by
  unfold Obligations.Sm83InstructionFrame
  intro i s t hi he
  obtain ⟨f, hf, hm⟩ := exec_sm83 hi
  rw [hf] at he
  obtain rfl := Host.Outcome.next.inj he
  obtain ⟨m, hr, hfm⟩ := hm.frame s.g
  dsimp only
  refine ⟨rfl, rfl, ?_, ?_, fun hc => ?_, fun hs => ?_, fun c hc => ?_⟩
  · rw [hfm]; exact hr.cart_eq
  · rw [hfm]; exact hr.frame_eq
  · obtain ⟨op, rfl⟩ | ⟨-, h1, h2, -⟩ := hm.status s.g
    · exact absurd rfl hc
    · exact ⟨h1, h2⟩
  · rw [hfm, hr.eq_of_no_store hs]
  · rw [hfm]; exact hr.peek_eq (gStores_storeList i _) hc

/-- Settles O26: EI leaves the delay at 1, and the next instruction's end finds it. -/
theorem eiTakesEffectOneInstructionLater : Obligations.EiTakesEffectOneInstructionLater := by
  unfold Obligations.EiTakesEffectOneInstructionLater
  intro i s t he hd
  have hei : exec .ei s = s.onG GStack.ei := rfl
  rw [hei] at he
  obtain rfl := Host.Outcome.next.inj he
  have hcpu : s.g.ei.cpu.imeDelay = 1 ∧ s.g.ei.cpu.ime = s.g.cpu.ime := by
    rw [GStack.ei, GStack.instr_eq]
    simp [hd]
  refine ⟨hcpu.1, hcpu.2, fun hi u hu => ⟨fun hdi hc => ?_, fun hdi => ?_⟩⟩
  · obtain ⟨f, hf, hm⟩ := exec_sm83 hi
    rw [hf] at hu
    obtain rfl := Host.Outcome.next.inj hu
    exact hm.delay_over hdi hc hcpu.1
  · subst hdi
    obtain rfl := Host.Outcome.next.inj hu
    change (GStack.di _).cpu.ime = false ∧ (GStack.di _).cpu.imeDelay = 0
    rw [GStack.di, GStack.instr_eq]
    simp
end Sys2Proof.Proofs
end

section
/-! Proofs. The decoder gives each core its own instructions, so a `Step` runs on the session's stack alone. -/

open Sys2Proof.Stated

namespace Sys2Proof

/-- What every entry of a table has, the entry of an opcode byte has. -/
theorem getD_getD_of_forall {α : Type} {P : α → Prop} {table : List (List α)} {dflt : α}
    (ht : ∀ row ∈ table, ∀ e ∈ row, P e) (hd : P dflt) (r c : Nat) : P ((table.getD r []).getD c dflt) := by
  rw [List.getD_eq_getElem?_getD, List.getD_eq_getElem?_getD]
  cases hr : table[r]? with
  | none => simpa using hd
  | some row =>
    rw [Option.getD_some]
    cases hc : row[c]? with
    | none => exact hd
    | some e => exact ht _ (List.mem_of_getElem? hr) _ (List.mem_of_getElem? hc)

/-- The entry decodes to instructions of the stack's core, whatever its operand bytes. -/
def OpRow.On (st : StackId) (e : OpRow) : Prop := ∀ b1 b2, (e.instr b1 b2).stack = st

theorem m6502Table_on : ∀ row ∈ m6502Table, ∀ e ∈ row, e.On .nStack := by
  simp only [m6502Table, m6502Row00, m6502Row10, m6502Row20, m6502Row30, m6502Row40, m6502Row50, m6502Row60,
    m6502Row70, m6502Row80, m6502Row90, m6502RowA0, m6502RowB0, m6502RowC0, m6502RowD0, m6502RowE0,
    m6502RowF0, List.forall_mem_cons, List.not_mem_nil, false_implies, implies_true, and_true]
  and_intros
  all_goals exact fun _ _ => rfl

theorem cbTable_on : ∀ row ∈ cbTable, ∀ i ∈ row, i.stack = .gStack := by decide

theorem decodeCb_stack (b : Byte) : (decodeCb b).stack = .gStack :=
  getD_getD_of_forall (P := fun i : Instr => i.stack = .gStack) cbTable_on rfl _ _

theorem cbPrefix_on : OpRow.cbPrefix.On .gStack := fun b1 _ => decodeCb_stack b1

theorem sm83Table_on : ∀ row ∈ sm83Table, ∀ e ∈ row, e.On .gStack := by
  simp only [sm83Table, sm83Row00, sm83Row10, sm83Row20, sm83Row30, sm83Row40, sm83Row50, sm83Row60,
    sm83Row70, sm83Row80, sm83Row90, sm83RowA0, sm83RowB0, sm83RowC0, sm83RowD0, sm83RowE0, sm83RowF0,
    List.forall_mem_cons, List.not_mem_nil, false_implies, implies_true, and_true,
    cbPrefix_on, true_and]
  and_intros
  all_goals exact fun _ _ => rfl

theorem decodeM6502_stack (op b1 b2 : Byte) : (decodeM6502 op b1 b2).stack = .nStack :=
  getD_getD_of_forall (P := OpRow.On .nStack) m6502Table_on (fun _ _ => rfl) _ _ b1 b2

theorem decodeSm83_stack (op b1 b2 : Byte) : (decodeSm83 op b1 b2).stack = .gStack :=
  getD_getD_of_forall (P := OpRow.On .gStack) sm83Table_on (fun _ _ => rfl) _ _ b1 b2

end Sys2Proof
end


section
/-! Proofs. What one `Step` of each core can be, and that each keeps the invariant of its stack. -/

open Sys2Proof.Stated

namespace Sys2Proof.Machine

namespace NStack

/-- What a `Step` of the M6502 leaves (R502): the end of an arm before (d), or a fetched instruction executed. -/
inductive CpuStep (n : NStack) : NStack → Prop where
  | head {m : NStack} (h : n.stepHead = .done m) : n.CpuStep m
  | instr {m : NStack} {f : NStack → NStack} (h : n.stepHead = .execute m) (hf : Meaning m.fetch.1 f) :
      n.CpuStep (f m.fetch.2)

/-- The `Step` of an N-stack session is a `Step` of its M6502, whatever the other stack holds. -/
theorem exists_cpuStep (n : NStack) : ∃ m, n.CpuStep m ∧
    ∀ s : State, s.stack = .nStack → s.n = n → Machine.cpuStep s = .next { s with n := m } := by
  cases h : n.stepHead with
  | done m =>
    refine ⟨m, .head h, ?_⟩
    rintro ⟨_, _, g⟩ rfl rfl
    dsimp only at h
    simp only [Machine.cpuStep, State.stepHead, h]
  | execute m =>
    obtain ⟨f, hf, hm⟩ := exec_m6502 (decodeM6502_stack _ _ _ : m.fetch.1.stack = .nStack)
    refine ⟨_, .instr h hm, ?_⟩
    rintro ⟨_, _, g⟩ rfl rfl
    dsimp only at h
    simp only [Machine.cpuStep, State.stepHead, h, State.fetch]
    exact hf _

theorem Reaches.fetchIf {n m : NStack} {l : List Word} (h : n.Reaches l m) (c : Bool) (a : Word) :
    n.Reaches l (m.fetchIf c a).2 := by
  unfold NStack.fetchIf
  split
  · exact h.read a
  · exact h

/-- The fetch reads the bus and does nothing else (R200). -/
theorem reaches_fetch (n : NStack) : n.Reaches [] n.fetch.2 := ((Reaches.here.read _).fetchIf _ _).fetchIf _ _

/-- The arms before (d) change nothing on the way to an instruction (R502). -/
theorem eq_of_stepHead_execute {n m : NStack} (hh : n.stepHead = .execute m) : m = n := by
  unfold stepHead at hh
  split_ifs at hh
  exact (Head.execute.inj hh).symm

/-- Every instruction keeps the invariant of the machine. -/
theorem Meaning.inv {i : Instr} {f : NStack → NStack} (hf : Meaning i f) {n : NStack} (h : n.Inv) : (f n).Inv := by
  cases hf with
  | runs hr => exact (hr.reaches n).inv h
  | ill op => exact { h with fault := rfl }

theorem Meaning.cycles_le {i : Instr} {f : NStack → NStack} (hf : Meaning i f) (n : NStack) : (f n).cycles ≤ 8 := by
  cases hf with
  | runs hr => exact (hr.cycles n).2
  | ill op => exact Nat.zero_le 8

/-- The DMA unit's write goes to the picture unit's port (R87). -/
theorem write_dmaPort (n : NStack) (v : Byte) : n.write 0x2004 v = n.portEvent (.write 4 v) := rfl

namespace Inv

variable {n m : NStack}

theorem interrupt (h : n.Inv) (ret : Word) (b : Bool) (vector : Word) : (n.enterInterrupt ret b vector).Inv :=
  (Reaches.enterInterrupt n ret b vector).inv h

/-- A DMA unit counts its index on, and the last one ends the transfer (R87). -/
theorem dmaUnit (h : n.Inv) (hi : n.dma.index < Config.mDmaUnits) : n.dmaUnit.Inv := by
  have hr := h.read (join n.dma.page (BitVec.ofNat 8 n.dma.index))
  simp only [NStack.dmaUnit, write_dmaPort, portEvent_dma, read_dma]
  refine { hr with dmaIndex := hi, dmaActive := fun ha => ?_ }
  dsimp only at ha ⊢
  split_ifs at ha with he
  exact lt_of_le_of_ne hi he

theorem dmaArm (h : n.Inv) : n.dmaArm.Inv ∧ n.dmaArm.cycles ≤ 8 := by
  unfold NStack.dmaArm
  split_ifs with hi
  · exact ⟨{ h with fault := rfl }, Nat.zero_le 8⟩
  · exact ⟨h.dmaUnit (Nat.lt_of_not_le hi), by simp [NStack.dmaUnit, Config.mDmaUnitCycles]⟩

/-- The arms before (d) keep the invariant and take at most 8 cycles (R502, R503). -/
theorem head (h : n.Inv) (hh : n.stepHead = .done m) : m.Inv ∧ m.cycles ≤ 8 := by
  unfold NStack.stepHead at hh
  split_ifs at hh
  all_goals obtain rfl := Head.done.inj hh
  · exact ⟨{ h with }, Nat.zero_le 8⟩
  · exact ⟨{ h.interrupt n.cpu.pc false nmiVector with }, by simp [serviceNmi, Config.mIntCycles]⟩
  · exact ⟨{ h.interrupt n.cpu.pc false irqVector with }, by simp [serviceIrq, Config.mIntCycles]⟩
  · exact h.dmaArm

theorem cpuStep (h : n.Inv) (hs : n.CpuStep m) : m.Inv ∧ m.cycles ≤ 8 := by
  cases hs with
  | head hh => exact h.head hh
  | instr hh hf =>
    obtain rfl := eq_of_stepHead_execute hh
    exact ⟨hf.inv ((reaches_fetch _).inv h), hf.cycles_le _⟩

/-- The driver's turn after a `Step` keeps the invariant (R126). -/
theorem finishStep (h : m.Inv) (hc : m.cycles ≤ 8) : m.finishStep.Inv := by
  unfold NStack.finishStep
  split_ifs
  · exact h
  · obtain ⟨hcount, hcarry⟩ := FrameDriver.add_spec (k := 7) hc (by decide : 7 < Config.frameBudget .nStack) h.count
      h.carry
    exact { h with carry := hcarry, count := hcount }

end Inv

end NStack

namespace GStack

/-- What a `Step` of the SM83 leaves (R502): the end of an arm before (d), or a fetched instruction executed. -/
inductive CpuStep (g : GStack) : GStack → Prop where
  | head {m : GStack} (h : g.stepHead = .done m) : g.CpuStep m
  | instr {m : GStack} {f : GStack → GStack} (h : g.stepHead = .execute m) (hf : Meaning m.fetch.1 f) :
      g.CpuStep (f m.fetch.2)

/-- The `Step` of a G-stack session is a `Step` of its SM83, whatever the other stack holds. -/
theorem exists_cpuStep (g : GStack) : ∃ m, g.CpuStep m ∧
    ∀ s : State, s.stack = .gStack → s.g = g → Machine.cpuStep s = .next { s with g := m } := by
  cases h : g.stepHead with
  | done m =>
    refine ⟨m, .head h, ?_⟩
    rintro ⟨_, n, _⟩ rfl rfl
    dsimp only at h
    simp only [Machine.cpuStep, State.stepHead, h]
  | execute m =>
    obtain ⟨f, hf, hm⟩ := exec_sm83 (decodeSm83_stack _ _ _ : m.fetch.1.stack = .gStack)
    refine ⟨_, .instr h hm, ?_⟩
    rintro ⟨_, n, _⟩ rfl rfl
    dsimp only at h
    simp only [Machine.cpuStep, State.stepHead, h, State.fetch]
    exact hf _

theorem Reaches.fetchIf {g m : GStack} {l : List Word} (h : g.Reaches l m) (c : Bool) (a : Word) :
    g.Reaches l (m.fetchIf c a).2 := by
  unfold GStack.fetchIf
  split
  · exact h.read a
  · exact h

/-- The fetch reads the bus and does nothing else (R310). -/
theorem reaches_fetch (g : GStack) : g.Reaches [] g.fetch.2 := ((Reaches.here.read _).fetchIf _ _).fetchIf _ _

namespace Inv

variable {g m : GStack}

/-- An interrupt entry clears the delay and pushes `PC` (R528). -/
theorem serviceInterrupt (h : g.Inv) : g.serviceInterrupt.Inv := by
  have h1 : ({ g with
      irq := { g.irq with ifReg := g.irq.ifReg &&& ~~~(1#5 <<< lowestBit g.irq.pending) }
      cpu := { g.cpu with ime := false, imeDelay := 0, halted := false, stopped := false } } : GStack).Inv :=
    { h with imeDelay := Nat.zero_le 2 }
  exact { (Reaches.here.push16 g.cpu.pc).inv h1 with }

/-- A DMA unit stores inside `oam` and counts its index on; the last one ends the transfer (R101). -/
theorem dmaUnit (h : g.Inv) (hi : g.dma.index < Config.gDmaUnits) : g.dmaUnit.Inv := by
  have hr := h.readAs .dma (join g.dma.src (BitVec.ofNat 8 g.dma.index))
  refine { hr with
    oam := hr.oam.write hi _
    dmaIndex := by simpa only [GStack.dmaUnit, GStack.poke, readAs_dma] using Nat.succ_le_of_lt hi
    dmaActive := fun ha => ?_ }
  simp only [GStack.dmaUnit, GStack.poke, readAs_dma] at ha ⊢
  split_ifs at ha with he
  exact lt_of_le_of_ne hi he

theorem dmaArm (h : g.Inv) : g.dmaArm.Inv ∧ g.dmaArm.cycles ≤ 24 := by
  unfold GStack.dmaArm
  split_ifs with hi
  · exact ⟨{ h with fault := rfl }, Nat.zero_le 24⟩
  · exact ⟨h.dmaUnit (Nat.lt_of_not_le hi), by simp [GStack.dmaUnit, Config.gDmaUnitCycles]⟩

/-- The arms before (d) keep the invariant and take at most 24 cycles (R502, R503). -/
theorem head (h : g.Inv) (hh : g.stepHead = .done m) : m.Inv ∧ m.cycles ≤ 24 := by
  unfold GStack.stepHead at hh
  split_ifs at hh
  all_goals obtain rfl := Head.done.inj hh
  · exact ⟨{ h with }, Nat.zero_le 24⟩
  · exact ⟨h.serviceInterrupt, by simp [GStack.serviceInterrupt, Config.gIntCycles]⟩
  · exact ⟨{ h with }, by simp [Config.gHaltStall]⟩
  · exact ⟨{ h with }, by simp [Config.gHaltStall]⟩
  · exact dmaArm { h with }

theorem execute (h : g.Inv) (hh : g.stepHead = .execute m) : m.Inv := by
  unfold GStack.stepHead at hh
  split_ifs at hh
  obtain rfl := Head.execute.inj hh
  exact { h with }

theorem cpuStep (h : g.Inv) (hs : g.CpuStep m) : m.Inv ∧ m.cycles ≤ 24 := by
  cases hs with
  | head hh => exact h.head hh
  | instr hh hf =>
    have hm := (reaches_fetch _).inv (h.execute hh)
    refine ⟨hf.inv hm, ?_⟩
    obtain ⟨op, rfl⟩ | ⟨hc, -⟩ := hf.status _
    · exact Nat.zero_le 24
    · exact hc.2

/-- The peripherals and the driver's turn after a `Step` keep the invariant (R126). -/
theorem finishStep (h : m.Inv) (hc : m.cycles ≤ 24) : m.finishStep.Inv := by
  unfold GStack.finishStep
  split_ifs
  · exact h
  · obtain ⟨hcount, hcarry⟩ := FrameDriver.add_spec (k := 23) hc (by decide : 23 < Config.frameBudget .gStack) h.count
      h.carry
    exact { h with
      ovfDelay := GTimer.advance_ovfDelay _ h.ovfDelay
      ppu := h.ppu.advance _ _ _ _
      carry := hcarry
      count := hcount }

end Inv

end GStack

/-- A step of an N-stack session is a `Step` of its M6502 and the driver's turn. -/
theorem step_nStack (n : NStack) : ∃ m, n.CpuStep m ∧
    ∀ s : State, s.stack = .nStack → s.n = n → step s = .next { s with n := m.finishStep } := by
  obtain ⟨m, hm, hs⟩ := n.exists_cpuStep
  refine ⟨m, hm, fun s hst hn => ?_⟩
  simp only [step, hs s hst hn, State.finishStep, hst]

/-- A step of a G-stack session is a `Step` of its SM83 and the driver's turn. -/
theorem step_gStack (g : GStack) : ∃ m, g.CpuStep m ∧
    ∀ s : State, s.stack = .gStack → s.g = g → step s = .next { s with g := m.finishStep } := by
  obtain ⟨m, hm, hs⟩ := g.exists_cpuStep
  refine ⟨m, hm, fun s hst hg => ?_⟩
  simp only [step, hs s hst hg, State.finishStep, hst]

end Sys2Proof.Machine

namespace Sys2Proof.Proofs

open Sys2Proof.Machine

/-- Settles O56: a step is a `Step` of one core and the driver's turn, and each keeps the invariant of its stack. -/
theorem stepKeepsInvariant : Obligations.StepKeepsInvariant := by
  unfold Obligations.StepKeepsInvariant
  intro s t hs he
  cases hst : s.stack with
  | nStack =>
    obtain ⟨m, hm, hstep⟩ := step_nStack s.n
    rw [hstep s hst rfl] at he
    obtain rfl := Host.Outcome.next.inj he
    obtain ⟨hi, hc⟩ := hs.n.cpuStep hm
    exact ⟨hi.finishStep hc, hs.g⟩
  | gStack =>
    obtain ⟨m, hm, hstep⟩ := step_gStack s.g
    rw [hstep s hst rfl] at he
    obtain rfl := Host.Outcome.next.inj he
    obtain ⟨hi, hc⟩ := hs.g.cpuStep hm
    exact ⟨hs.n, hi.finishStep hc⟩

/-- Settles O52: the next state of the session's stack is a function of that stack, and the other stays. -/
theorem stacksShareNothing : Obligations.StacksShareNothing := by
  unfold Obligations.StacksShareNothing
  intro s s' t t' he he' hst
  cases h : s.stack with
  | nStack =>
    obtain ⟨m, -, hstep⟩ := step_nStack s.n
    rw [hstep s h rfl] at he
    obtain rfl := Host.Outcome.next.inj he
    refine ⟨h, fun _ => ⟨rfl, fun hn => ?_⟩, nofun⟩
    rw [hstep s' (hst.symm.trans h) hn.symm] at he'
    obtain rfl := Host.Outcome.next.inj he'
    rfl
  | gStack =>
    obtain ⟨m, -, hstep⟩ := step_gStack s.g
    rw [hstep s h rfl] at he
    obtain rfl := Host.Outcome.next.inj he
    refine ⟨h, nofun, fun _ => ⟨rfl, fun hg => ?_⟩⟩
    rw [hstep s' (hst.symm.trans h) hg.symm] at he'
    obtain rfl := Host.Outcome.next.inj he'
    rfl

end Sys2Proof.Proofs
end

section
/-! Proofs. One access of either bus, and the states after reset. -/

open Sys2Proof.Stated

namespace Sys2Proof.Machine

theorem NStack.reset_inv : NStack.reset.Inv :=
  ⟨Memory.ok_nil _, Memory.ok_nil _, Memory.ok_nil _, by decide, by decide, by decide, rfl, by decide, by decide⟩

theorem GPpu.reset_inv : GStack.reset.ppu.Inv :=
  ⟨by decide, by decide, fun _ => by decide, fun h => absurd h (by decide), by decide, nofun, Picture.ok_nil,
    Picture.ok_nil⟩

theorem GStack.reset_inv : GStack.reset.Inv :=
  ⟨Memory.ok_nil _, Memory.ok_nil _, Memory.ok_nil _, Memory.ok_nil _, Memory.ok_nil _, Memory.ok_nil _, by decide,
    by decide, by decide, by decide, by decide, by decide, GPpu.reset_inv, rfl, by decide, by decide⟩

/-- At 0x2000 to 0x3FFF stands the picture unit's port (R80). -/
theorem nClaim_port {a : Word} (h : 0x2000 ≤ a.toNat) (h' : a.toNat < 0x4000) :
    nClaim a = .ppuPort (a.toNat % 8) := by
  unfold nClaim
  dsimp only
  rw [if_neg (by omega), if_pos h']

/-- And nowhere else. -/
theorem nClaim_ne_port {a : Word} (h : a.toNat < 0x2000 ∨ 0x4000 ≤ a.toNat) (k : Nat) : nClaim a ≠ .ppuPort k := by
  unfold nClaim
  dsimp only
  split_ifs <;> first | omega | nofun

/-- The joypad registers stand at 0x4016 and 0x4017 (R84). -/
theorem nClaim_ne_joypad {a : Word} (h : a.toNat ≠ 0x4016) (h' : a.toNat ≠ 0x4017) :
    nClaim a ≠ .joypad1 ∧ nClaim a ≠ .joypad2 := by
  unfold nClaim
  dsimp only
  split_ifs <;> exact ⟨nofun, nofun⟩

theorem ioClaim_port_nibbles : ∀ h l : Fin 16,
    ioClaim (16 * h + l) = .apuPort ↔ 0x10 ≤ 16 * h.val + l.val ∧ 16 * h.val + l.val < 0x40 := by decide

/-- At 0xFF10 to 0xFF3F, and nowhere else, stands the audio unit's port (R98). -/
theorem gClaim_port_iff (a : Word) : gClaim a = .apuPort ↔ 0xFF10 ≤ a.toNat ∧ a.toNat < 0xFF40 := by
  have ha := a.isLt
  by_cases hio : 0xFF00 ≤ a.toNat
  · have hn := ioClaim_port_nibbles ⟨(a.toNat - 0xFF00) / 16, by omega⟩ ⟨(a.toNat - 0xFF00) % 16, by omega⟩
    dsimp only at hn
    rw [show 16 * ((a.toNat - 0xFF00) / 16) + (a.toNat - 0xFF00) % 16 = a.toNat - 0xFF00 by omega] at hn
    have hg : gClaim a = ioClaim (a.toNat - 0xFF00) := by
      unfold gClaim
      dsimp only
      split_ifs <;> first | omega | exact Eq.refl (ioClaim _)
    rw [hg, hn]
    omega
  · refine iff_of_false ?_ (by omega)
    unfold gClaim
    dsimp only
    split_ifs <;> first | omega | nofun

/-- A read outside the port's range shows the picture unit nothing (R80). -/
theorem read_ppuPort_eq (n : NStack) {a : Word} (h : a.toNat < 0x2000 ∨ 0x4000 ≤ a.toNat) :
    (n.read a).2.ppuPort = n.ppuPort := by
  unfold NStack.read
  split
  · rfl
  · unfold NStack.readRegister
    split
    case h_1 k hk => exact absurd hk (nClaim_ne_port h k)
    all_goals rfl

/-- A read elsewhere shifts no joypad register (R84). -/
theorem read_joy_eq (n : NStack) {a : Word} (h : a.toNat ≠ 0x4016) (h' : a.toNat ≠ 0x4017) :
    (n.read a).2.joy = n.joy := by
  obtain ⟨h1, h2⟩ := nClaim_ne_joypad h h'
  unfold NStack.read
  split
  · rfl
  · unfold NStack.readRegister
    split
    case h_2 hk => exact absurd hk h1
    case h_3 hk => exact absurd hk h2
    all_goals rfl

/-- A read outside the audio unit's range changes nothing (R98). -/
theorem readAs_eq (m : BusMaster) (g : GStack) {a : Word} (h : a.toNat < 0xFF10 ∨ 0xFF40 ≤ a.toNat) :
    (GStack.readAs m g a).2 = g := by
  unfold GStack.readAs
  split
  · rfl
  · unfold GStack.readRegister
    split
    case h_8 hk =>
      have := (gClaim_port_iff a).mp hk
      omega
    all_goals rfl

end Sys2Proof.Machine

namespace Sys2Proof.Proofs

open Sys2Proof.Machine

/-- Settles O55: the reset values lie in the ranges of the invariant. -/
theorem resetMeetsInvariant : Obligations.ResetMeetsInvariant := ⟨⟨NStack.reset_inv, GStack.reset_inv⟩, rfl⟩

/-- Settles O29: the laws of one access say what it changes; the ports' records follow from the decode tables. -/
theorem busAccessFrame : Obligations.BusAccessFrame := by
  unfold Obligations.BusAccessFrame
  refine ⟨fun n a => ⟨n.read_after a, read_ppuPort_eq n, fun h h' => ⟨?_, fun v => ?_⟩, read_joy_eq n⟩,
    fun n a v => ⟨n.write_cpu a v, n.write_cart a v, n.write_frame a v, n.write_cycles a v,
      fun c hc => n.peek_write_ne a v hc⟩,
    fun m g a => ⟨GStack.readAs_after m g a, readAs_eq m g, fun h h' => ⟨?_, fun v => ?_⟩⟩,
    fun g a v => ⟨g.write_cpu a v, g.write_cart a v, g.write_frame a v, g.write_cycles a v,
      fun c hc => g.peek_write_ne a v hc⟩⟩
  · simp only [NStack.read, NStack.cellOf, NStack.readRegister, nClaim_port h h']
    rfl
  · simp only [NStack.write, NStack.cellOf, NStack.writeRegister, nClaim_port h h']
    rfl
  · simp only [GStack.readAs, GStack.cellOf, GStack.readRegister, (gClaim_port_iff a).mpr ⟨h, h'⟩]
    rfl
  · simp only [GStack.write, GStack.cellOf, GStack.writeRegister, (gClaim_port_iff a).mpr ⟨h, h'⟩]
    rfl

end Sys2Proof.Proofs
end

section
/-! Proofs. What Reset leaves. -/

open Sys2Proof.Machine Sys2Proof.Stated

namespace Sys2Proof.Machine

/-- Reset of the N-stack written out: the vector is two bytes of program ROM in bank 0 (R650). -/
theorem NStack.resetOf_eq (n : NStack) : n.resetOf =
    { NStack.reset with
      cpu := { NStack.reset.cpu with
        pc := join (n.cart.prgRom.read (n.cart.romOffset 0 0x7FFD)) (n.cart.prgRom.read (n.cart.romOffset 0 0x7FFC)) }
      prgRam := n.prgRam
      cart := n.cart
      ppuPort := .advance 7 :: .reset :: n.ppuPort } := by
  unfold NStack.resetOf
  dsimp only
  rw [NStack.readPair_rom _ (by decide) (by decide)]
  rfl

end Sys2Proof.Machine

namespace Sys2Proof.Proofs

/-- Settles O58: both Resets written out, and the registers of the G-stack read back through its bus. -/
theorem resetStates : Obligations.ResetStates := by
  unfold Obligations.ResetStates
  refine ⟨fun n => ?_, fun g => ?_⟩
  · simp only [NStack.resetOf_eq]
    rfl
  · have hpix (y x : Nat) : Picture.pixel [] y x = 0 := by simp [Picture.pixel, Picture.row, sparseRead, Picture.blankRow]
    have haf : join (0x01 : Byte) (fByte { z := true, n := false, h := true, c := true }) = 0x01B0 := by decide
    have hbc : join (0x00 : Byte) 0x13 = 0x0013 := by decide
    have hde : join (0x00 : Byte) 0xD8 = 0x00D8 := by decide
    have hhl : join (0x01 : Byte) 0x4D = 0x014D := by decide
    refine ⟨haf, hbc, hde, hhl, rfl, rfl, rfl, rfl, rfl, rfl, rfl, rfl, rfl, rfl, rfl, rfl, rfl, rfl, rfl, rfl,
      fun y x => ⟨hpix y x, hpix y x⟩, rfl, rfl, fun _ => ⟨rfl, rfl, rfl, rfl⟩, rfl, rfl, rfl, rfl, ?_⟩
    simp only [List.forall_mem_cons, List.not_mem_nil, false_implies, implies_true, and_true]
    have hp1 : GStack.reset.joy.read = 0xFF := by decide
    have hdiv : GStack.reset.timer.readDiv = 0xAB := by decide
    have htac : GStack.reset.timer.readTac = 0xF8 := by decide
    have hif : Config.gIfReadOr ||| GStack.reset.irq.ifReg.zeroExtend 8 = 0xE1 := by decide
    have hstat : GStack.reset.ppu.readStat = 0x86 := by decide
    have hie : Config.gIeReadOr ||| GStack.reset.irq.ieReg.zeroExtend 8 = 0xE0 := by decide
    exact ⟨congrArg (·, g.resetOf) hp1, congrArg (·, g.resetOf) hdiv, rfl, rfl, congrArg (·, g.resetOf) htac,
      congrArg (·, g.resetOf) hif, rfl, congrArg (·, g.resetOf) hstat, rfl, rfl, rfl, rfl, rfl, rfl, rfl, rfl, rfl, rfl,
      congrArg (·, g.resetOf) hie⟩

end Sys2Proof.Proofs
end

section
/-! Proofs. Construction: what the headers accept, and what the session holds (R115 to R120, R653). -/

open Sys2Proof.Machine Sys2Proof.Stated

namespace Sys2Proof.Machine

/-! ### Bytes of an image as a memory -/

namespace Memory

theorem Ok.mono {m : Memory} {a b : Nat} (h : m.Ok a) (hab : a ≤ b) : m.Ok b := by
  refine ⟨h.1, ?_⟩
  have hb := h.2
  simp only [below, sparseBelow, List.all_eq_true, decide_eq_true_eq] at hb ⊢
  exact fun e he => (hb e he).trans_le hab

theorem read_ofBytesFrom (bs : List Byte) (off k : Nat) : read (ofBytesFrom off bs) (off + k) = bs.getD k 0 := by
  induction bs generalizing off k with
  | nil => rfl
  | cons b bs ih =>
    unfold ofBytesFrom
    cases k with
    | zero =>
      split_ifs with hb
      · rw [hb]
        exact sparseRead_of_wfFrom (ofBytesFrom_wf (off + 1) bs) (Nat.lt_succ_self off)
      · exact if_pos rfl
    | succ k =>
      rw [List.getD_cons_succ, ← ih (off + 1) k, show off + 1 + k = off + (k + 1) by omega]
      split_ifs with hb
      · rfl
      · exact if_neg (by omega)

/-- A memory made of bytes reads as those bytes, and 0 behind them. -/
theorem read_ofBytes (bs : List Byte) (k : Nat) : (ofBytes bs).read k = bs.getD k 0 := by
  have := read_ofBytesFrom bs 0 k
  rwa [Nat.zero_add] at this

end Memory

theorem getD_take {l : List Byte} {k size : Nat} (h : k < size) : (l.take size).getD k 0 = l.getD k 0 := by
  rw [List.getD_eq_getElem?_getD, List.getElem?_take_of_lt h, List.getD_eq_getElem?_getD]

/-- Save data lies in its RAM (R135). -/
theorem loadBlob_ok (size : Nat) (save : Option (List Byte)) : (loadBlob size save).Ok size :=
  (Memory.ofBytes_ok _).mono (List.length_take_le _ _)

/-- Save data is the part of the blob that overlaps the RAM (R135). -/
theorem read_loadBlob {size k : Nat} (save : Option (List Byte)) (h : k < size) :
    (loadBlob size save).read k = (save.getD []).getD k 0 := by
  rw [loadBlob, Memory.read_ofBytes, getD_take h]

/-! ### The iNES header (R116) -/

/-- Byte `k` of an image as a number; 0 behind its end. -/
def imageByte (image : List Byte) (k : Nat) : Nat := (image.getD k 0).toNat

/-- The mapper number of the header. -/
def iNesMapper (image : List Byte) : Nat := imageByte image 7 / 16 * 16 + imageByte image 6 / 16

/-- Where the program ROM begins: behind the header and the trainer. -/
def iNesStart (image : List Byte) : Nat := 16 + (if imageByte image 6 / 4 % 2 = 1 then 512 else 0)

/-- The rules of the header for the N-stack. -/
def iNesOk (image : List Byte) : Prop :=
  16 ≤ image.length ∧ image.take 4 = [0x4E, 0x45, 0x53, 0x1A] ∧ 1 ≤ imageByte image 4 ∧
    iNesStart image + imageByte image 4 * 16384 + imageByte image 5 * 8192 ≤ image.length ∧
    (iNesMapper image = 0 ∨ iNesMapper image = 2 ∨ iNesMapper image = 3)

/-- The cartridge of an image. -/
def iNesCart (image : List Byte) : NCart where
  mapper := if iNesMapper image = 0 then .nrom else if iNesMapper image = 2 then .uxrom else .cnrom
  prgUnits := imageByte image 4
  chrUnits := imageByte image 5
  mirroring := decide (imageByte image 6 % 2 = 1)
  battery := decide (imageByte image 6 / 2 % 2 = 1)
  fourScreen := decide (imageByte image 6 / 8 % 2 = 1)
  prgRom := Memory.ofBytes ((image.drop (iNesStart image)).take (imageByte image 4 * 16384))

theorem getLsbD_eq_decide (b : Byte) (i : Nat) : b.getLsbD i = decide (b.toNat / 2 ^ i % 2 = 1) := by
  rw [← BitVec.testBit_toNat, Nat.testBit_eq_decide_div_mod_eq]

/-- The mapper byte of the model is the mapper number. -/
theorem mapperByte_eq_iff (image : List Byte) (k : Byte) :
    ((image.getD 7 0).extractLsb' 4 4 ++ (image.getD 6 0).extractLsb' 4 4 : Byte) = k ↔ iNesMapper image = k.toNat := by
  have h7 := (image.getD 7 0).isLt
  have h6 := (image.getD 6 0).isLt
  have hi : ((image.getD 7 0).extractLsb' 4 4).toNat = imageByte image 7 / 16 := by
    rw [BitVec.extractLsb'_toNat, Nat.shiftRight_eq_div_pow, imageByte]
    omega
  have lo : ((image.getD 6 0).extractLsb' 4 4).toNat = imageByte image 6 / 16 := by
    rw [BitVec.extractLsb'_toNat, Nat.shiftRight_eq_div_pow, imageByte]
    omega
  have hor := Nat.shiftLeft_add_eq_or_of_lt (b := imageByte image 6 / 16) (i := 4) (by rw [imageByte]; omega)
    (imageByte image 7 / 16)
  rw [← BitVec.toNat_inj, BitVec.toNat_append, hi, lo, ← hor, Nat.shiftLeft_eq, iNesMapper]

/-- The header is accepted exactly when the rules hold, with that cartridge. -/
theorem parseINes_eq_ok_iff (image : List Byte) (c : NCart) :
    parseINes image = .ok c ↔ iNesOk image ∧ c = iNesCart image := by
  have hstart : 16 + (if (image.getD 6 0).getLsbD 2 then 512 else 0) = iNesStart image := by
    simp only [getLsbD_eq_decide, decide_eq_true_eq, iNesStart, imageByte]
    rfl
  have hmap (m : NMapper) (hm : (iNesCart image).mapper = m) : ({
      mapper := m
      prgUnits := (image.getD 4 0).toNat
      chrUnits := (image.getD 5 0).toNat
      mirroring := (image.getD 6 0).getLsbD 0
      battery := (image.getD 6 0).getLsbD 1
      fourScreen := (image.getD 6 0).getLsbD 3
      prgRom := Memory.ofBytes ((image.drop (iNesStart image)).take ((image.getD 4 0).toNat * 16384)) } : NCart) =
      iNesCart image := by
    simp only [getLsbD_eq_decide, pow_zero, Nat.div_one, ← hm]
    rfl
  have accept {x : NCart} (hx : x = iNesCart image) (hok : iNesOk image) :
      (Except.ok x : Except LoadError NCart) = .ok c ↔ iNesOk image ∧ c = iNesCart image := by
    rw [hx, Except.ok.injEq, eq_comm]
    exact (and_iff_right hok).symm
  have reject (h : ¬ iNesOk image) : False ↔ iNesOk image ∧ c = iNesCart image := ⟨False.elim, fun hx => h hx.1⟩
  unfold parseINes
  dsimp only
  rw [hstart]
  simp only [mapperByte_eq_iff]
  split_ifs with h1 h2 h3 h4 h5 h6 h7
  · exact reject fun h => by have := h.1; omega
  · exact reject fun h => h2 h.2.1
  · exact reject fun h => by have : 1 ≤ (image.getD 4 0).toNat := h.2.2.1; omega
  · exact reject fun h => Nat.lt_irrefl _ (h4.trans_le h.2.2.2.1)
  · exact accept (hmap _ (if_pos h5)) ⟨by omega, not_not.mp h2, Nat.pos_of_ne_zero h3, not_lt.mp h4, .inl h5⟩
  · exact accept (hmap _ ((if_neg h5).trans (if_pos h6)))
      ⟨by omega, not_not.mp h2, Nat.pos_of_ne_zero h3, not_lt.mp h4, .inr (.inl h6)⟩
  · exact accept (hmap _ ((if_neg h5).trans (if_neg h6)))
      ⟨by omega, not_not.mp h2, Nat.pos_of_ne_zero h3, not_lt.mp h4, .inr (.inr h7)⟩
  · exact reject fun h => h.2.2.2.2.elim h5 (Or.rec h6 h7)

/-! ### The G-stack header (R120) -/

/-- The rules of the header for the G-stack. -/
def gHeaderOk (image : List Byte) : Prop :=
  image.length % 16384 = 0 ∧ 32768 ≤ image.length ∧ imageByte image 0x147 ≤ 3 ∧ imageByte image 0x149 ≤ 3

/-- The cartridge of an image. -/
def gHeaderCart (image : List Byte) : GCart where
  type := if imageByte image 0x147 = 0 then .romOnly else .mbc1
  romBanks := image.length / 16384
  ramSize := if imageByte image 0x147 < 2 then 0 else [0, 2048, 8192, 32768].getD (imageByte image 0x149) 0
  battery := decide (imageByte image 0x147 = 3)
  rom := Memory.ofBytes image

theorem ramSizeOfCode_eq : ∀ c : Byte,
    ramSizeOfCode c = if c.toNat ≤ 3 then some ([0, 2048, 8192, 32768].getD c.toNat 0) else none := by decide

/-- The header is accepted exactly when the rules hold, with that cartridge. -/
theorem parseGHeader_eq_ok_iff (image : List Byte) (c : GCart) :
    parseGHeader image = .ok c ↔ gHeaderOk image ∧ c = gHeaderCart image := by
  have hb (k : Byte) : image.getD 0x147 0 = k ↔ imageByte image 0x147 = k.toNat := BitVec.toNat_inj.symm
  have h0 : (0 : Byte).toNat = 0 := rfl
  have h1 : (1 : Byte).toNat = 1 := rfl
  have h2 : (2 : Byte).toNat = 2 := rfl
  have h3 : (3 : Byte).toNat = 3 := rfl
  have hram : ramSizeOfCode (image.getD 0x149 0) = if imageByte image 0x149 ≤ 3 then
      some ([0, 2048, 8192, 32768].getD (imageByte image 0x149) 0) else none := ramSizeOfCode_eq _
  have reject {e : LoadError} (h : ¬ gHeaderOk image) :
      (Except.error e : Except LoadError GCart) = .ok c ↔ gHeaderOk image ∧ c = gHeaderCart image :=
    ⟨nofun, fun hx => absurd hx.1 h⟩
  unfold parseGHeader
  simp only [hb, hram, h0, h1, h2, h3]
  by_cases hl : image.length % 0x4000 ≠ 0 ∨ image.length < 0x8000
  · rw [if_pos hl]
    exact reject fun ⟨hm, hge, _, _⟩ => by omega
  rw [if_neg hl]
  by_cases ht : imageByte image 0x147 ≤ 3
  case neg =>
    rw [if_pos (by omega)]
    exact reject fun h => ht h.2.2.1
  rw [if_neg (by omega)]
  by_cases hr : imageByte image 0x149 ≤ 3
  case neg =>
    simp only [if_neg hr]
    exact reject fun h => hr h.2.2.2
  simp only [if_pos hr]
  have hsize (size : Nat) : (if imageByte image 0x147 = 2 ∨ imageByte image 0x147 = 3 then size else 0) =
      if imageByte image 0x147 < 2 then 0 else size := by split_ifs <;> omega
  rw [hsize, Except.ok.injEq, eq_comm]
  exact (and_iff_right ⟨by omega, by omega, ht, hr⟩).symm

end Sys2Proof.Machine
end

section
/-! Proofs. The sessions that construction gives. -/

open Sys2Proof.Machine Sys2Proof.Stated

namespace Sys2Proof.Machine

/-- The session of an N-stack image, after its Reset (R653). -/
def nSession (image : List Byte) (save : Option (List Byte)) (unit : Nat) : State :=
  { State.reset with
    stack := .nStack
    n := { NStack.reset with
      cart := iNesCart image
      prgRam := loadBlob prgRamSize save
      ppuPort := [.mirroring (iNesCart image).mirroring, .attach unit] }.resetOf }

/-- The session of a G-stack image, after its Reset (R653). -/
def gSession (image : List Byte) (save : Option (List Byte)) (unit : Nat) : State :=
  { State.reset with
    stack := .gStack
    g := { GStack.reset with
      cart := gHeaderCart image
      mem := { GStack.reset.mem with eram := loadBlob (gHeaderCart image).ramSize save }
      apuPort := [.attach unit] }.resetOf }

/-- Construction on the N-stack succeeds exactly under the header's rules. -/
theorem construct_nStack_eq_ok_iff {image : List Byte} {save : Option (List Byte)} {unit : Nat} {s : State} :
    construct .nStack image save unit = .ok s ↔ iNesOk image ∧ s = nSession image save unit := by
  unfold construct
  dsimp only
  cases h : parseINes image with
  | error e =>
    refine ⟨nofun, fun hx => ?_⟩
    rw [(parseINes_eq_ok_iff image _).mpr ⟨hx.1, rfl⟩] at h
    cases h
  | ok c =>
    obtain ⟨hok, rfl⟩ := (parseINes_eq_ok_iff image c).mp h
    rw [Except.ok.injEq, eq_comm]
    exact (and_iff_right hok).symm

/-- Construction on the G-stack succeeds exactly under the header's rules. -/
theorem construct_gStack_eq_ok_iff {image : List Byte} {save : Option (List Byte)} {unit : Nat} {s : State} :
    construct .gStack image save unit = .ok s ↔ gHeaderOk image ∧ s = gSession image save unit := by
  unfold construct
  dsimp only
  cases h : parseGHeader image with
  | error e =>
    refine ⟨nofun, fun hx => ?_⟩
    rw [(parseGHeader_eq_ok_iff image _).mpr ⟨hx.1, rfl⟩] at h
    cases h
  | ok c =>
    obtain ⟨hok, rfl⟩ := (parseGHeader_eq_ok_iff image c).mp h
    rw [Except.ok.injEq, eq_comm]
    exact (and_iff_right hok).symm

/-- The program ROM of an accepted image is all there. -/
theorem length_prgRom {image : List Byte} (h : iNesOk image) :
    ((image.drop (iNesStart image)).take (imageByte image 4 * 16384)).length = imageByte image 4 * 16384 := by
  obtain ⟨-, -, -, hlen, -⟩ := h
  rw [List.length_take, List.length_drop]
  omega

theorem nSession_inv {image : List Byte} (h : iNesOk image) (save : Option (List Byte)) (unit : Nat) :
    (nSession image save unit).Inv := by
  refine ⟨?_, GStack.reset_inv⟩
  dsimp only [nSession]
  rw [NStack.resetOf_eq]
  have hrom := Memory.ofBytes_ok ((image.drop (iNesStart image)).take (imageByte image 4 * 16384))
  rw [length_prgRom h] at hrom
  exact { NStack.reset_inv with
    prgRam := loadBlob_ok _ save
    prgRom := hrom
    prgUnits := h.2.2.1 }

theorem gSession_inv {image : List Byte} (h : gHeaderOk image) (save : Option (List Byte)) (unit : Nat) :
    (gSession image save unit).Inv := by
  obtain ⟨hmod, hlen, -, -⟩ := h
  refine ⟨NStack.reset_inv, ?_⟩
  have hbanks : image.length = image.length / 16384 * 16384 := by omega
  have hrom := Memory.ofBytes_ok image
  rw [hbanks] at hrom
  exact { GStack.reset_inv with
    eram := loadBlob_ok _ save
    rom := hrom
    romBanks := by show 2 ≤ image.length / 16384; omega }

/-- The program ROM holds the image's bytes behind the header and the trainer (R116). -/
theorem read_prgRom {image : List Byte} {k : Nat} (hk : k < imageByte image 4 * 16384) :
    (iNesCart image).prgRom.read k = image.getD (iNesStart image + k) 0 := by
  dsimp only [iNesCart]
  rw [Memory.read_ofBytes, getD_take hk, List.getD_eq_getElem?_getD, List.getElem?_drop, List.getD_eq_getElem?_getD]

end Sys2Proof.Machine

namespace Sys2Proof.Proofs

/-- Settles O59: the two header parsers accept exactly the ruled images, and the session is the Reset of what they
give. -/
theorem constructionAcceptsExactlyTheRuledImages : Obligations.ConstructionAcceptsExactlyTheRuledImages := by
  unfold Obligations.ConstructionAcceptsExactlyTheRuledImages
  intro image save unit b blob mapper nOk gOk
  refine ⟨⟨fun h => ⟨_, construct_nStack_eq_ok_iff.mpr ⟨h, rfl⟩⟩, fun ⟨_, h⟩ => (construct_nStack_eq_ok_iff.mp h).1⟩,
    ⟨fun h => ⟨_, construct_gStack_eq_ok_iff.mpr ⟨h, rfl⟩⟩, fun ⟨_, h⟩ => (construct_gStack_eq_ok_iff.mp h).1⟩,
    fun st s h => ?_, fun s h => ?_, fun s h => ?_⟩
  · cases st with
    | nStack =>
      obtain ⟨hok, rfl⟩ := construct_nStack_eq_ok_iff.mp h
      refine ⟨nSession_inv hok save unit, rfl, ?_, ?_⟩
      · dsimp only [nSession, State.faulted]
        rw [NStack.resetOf_eq]
        rfl
      · dsimp only [nSession, State.frameCount]
        rw [NStack.resetOf_eq]
        rfl
    | gStack =>
      obtain ⟨hok, rfl⟩ := construct_gStack_eq_ok_iff.mp h
      exact ⟨gSession_inv hok save unit, rfl, rfl, rfl⟩
  · obtain ⟨hok, rfl⟩ := construct_nStack_eq_ok_iff.mp h
    dsimp only [nSession]
    simp only [NStack.resetOf_eq]
    exact ⟨rfl, rfl, rfl, rfl, rfl, rfl, fun k hk => read_prgRom hk, fun k hk => read_loadBlob save hk, rfl,
      trivial⟩
  · obtain ⟨hok, rfl⟩ := construct_gStack_eq_ok_iff.mp h
    exact ⟨rfl, rfl, rfl, rfl, fun k _ => Memory.read_ofBytes image k, fun k hk => read_loadBlob save hk, rfl, rfl⟩

end Sys2Proof.Proofs
end

section
/-! Proofs. Both decode tables by their rows, and what an access answers there (R73, R75, R93). -/

open Sys2Proof.Stated

namespace Sys2Proof.Machine

/-! ### The N-stack's map -/

theorem nClaim_ram {a : Word} (h : a.toNat < 0x2000) : nClaim a = .ram (a.toNat % 0x800) := if_pos h

theorem nClaim_prgRam {a : Word} (h : 0x6000 ≤ a.toNat) (h' : a.toNat < 0x8000) :
    nClaim a = .prgRam (a.toNat - 0x6000) := by
  unfold nClaim
  dsimp only
  rw [if_neg, if_neg, if_neg, if_neg, if_neg, if_neg, if_pos] <;> omega

theorem nClaim_mapper {a : Word} (h : 0x8000 ≤ a.toNat) : nClaim a = .mapper (a.toNat - 0x8000) := by
  unfold nClaim
  dsimp only
  rw [if_neg, if_neg, if_neg, if_neg, if_neg, if_neg, if_neg] <;> omega

/-- Between the picture unit's port and `prg_ram` stand the DMA trigger and the joypads, and nothing else. -/
theorem nClaim_device {a : Word} (h : 0x4000 ≤ a.toNat) (h' : a.toNat < 0x6000) :
    nClaim a = if a.toNat = 0x4014 then .dmaTrigger else if a.toNat = 0x4016 then .joypad1
      else if a.toNat = 0x4017 then .joypad2 else .unclaimed := by
  unfold nClaim
  dsimp only
  rw [if_neg (by omega), if_neg (by omega), if_pos h']

namespace NStack

variable {n : NStack} {a : Word} {c : NCell}

theorem read_of_cellOf (h : n.cellOf a = some c) : n.read a = (n.peek c, n) := by rw [read, h]

theorem write_of_cellOf (h : n.cellOf a = some c) (v : Byte) : n.write a v = n.poke c v := by rw [write, h]

/-- The bus sees an address by its claim alone. -/
theorem read_congr {b : Word} (h : nClaim a = nClaim b) (n : NStack) : n.read a = n.read b := by
  simp only [read, cellOf, readRegister, h]

theorem write_congr {b : Word} (h : nClaim a = nClaim b) (n : NStack) (v : Byte) : n.write a v = n.write b v := by
  simp only [write, cellOf, writeRegister, h]

/-- What is stored in open storage is read back, and the read changes nothing (R72). -/
theorem read_write_of_cellOf (hn : n.Inv) (h : n.cellOf a = some c) (v : Byte) :
    (n.write a v).read a = (v, n.write a v) := by
  have h' : (n.poke c v).cellOf a = some c := h
  rw [write_of_cellOf h, read_of_cellOf h', peek_poke_self hn.ram.1 hn.prgRam.1]

end NStack

/-! ### The G-stack's map -/

theorem gClaim_rom {a : Word} (h : a.toNat < 0x8000) : gClaim a = .rom a.toNat := if_pos h

theorem gClaim_vram {a : Word} (h : 0x8000 ≤ a.toNat) (h' : a.toNat < 0xA000) :
    gClaim a = .vram (a.toNat - 0x8000) := by
  unfold gClaim
  dsimp only
  rw [if_neg (by omega), if_pos h']

theorem gClaim_eram {a : Word} (h : 0xA000 ≤ a.toNat) (h' : a.toNat < 0xC000) :
    gClaim a = .eram (a.toNat - 0xA000) := by
  unfold gClaim
  dsimp only
  rw [if_neg (by omega), if_neg (by omega), if_pos h']

/-- Work RAM and its mirror (R73). -/
theorem gClaim_wram {a : Word} (h : 0xC000 ≤ a.toNat) (h' : a.toNat < 0xFE00) :
    gClaim a = .wram ((a.toNat - 0xC000) % 0x2000) := by
  unfold gClaim
  dsimp only
  rw [if_neg (by omega), if_neg (by omega), if_neg (by omega)]
  by_cases hm : a.toNat < 0xE000
  · rw [if_pos hm, Nat.mod_eq_of_lt (by omega)]
  · rw [if_neg hm, if_pos h']
    exact congrArg GClaim.wram (by omega)

theorem gClaim_oam {a : Word} (h : 0xFE00 ≤ a.toNat) (h' : a.toNat < 0xFEA0) :
    gClaim a = .oam (a.toNat - 0xFE00) := by
  unfold gClaim
  dsimp only
  rw [if_neg, if_neg, if_neg, if_neg, if_neg, if_pos] <;> omega

theorem gClaim_hole {a : Word} (h : 0xFEA0 ≤ a.toNat) (h' : a.toNat < 0xFF00) : gClaim a = .unclaimed := by
  unfold gClaim
  dsimp only
  rw [if_neg, if_neg, if_neg, if_neg, if_neg, if_neg, if_pos] <;> omega

theorem gClaim_io {a : Word} (h : 0xFF00 ≤ a.toNat) : gClaim a = ioClaim (a.toNat - 0xFF00) := by
  unfold gClaim
  dsimp only
  rw [if_neg, if_neg, if_neg, if_neg, if_neg, if_neg, if_neg] <;> omega

theorem gClaim_hram {a : Word} (h : 0xFF80 ≤ a.toNat) (h' : a.toNat < 0xFFFF) :
    gClaim a = .hram (a.toNat - 0xFF80) := by
  rw [gClaim_io (by omega)]
  unfold ioClaim
  rw [if_neg (by omega), if_neg (by omega), if_neg (by omega), if_neg (by omega), if_pos (by omega)]
  exact congrArg GClaim.hram (by omega)

theorem ioClaim_unclaimed_nibbles : ∀ h l : Fin 16,
    ioClaim (16 * h + l) = .unclaimed ↔ (1 ≤ 16 * h.val + l.val ∧ 16 * h.val + l.val ≤ 3) ∨
      (8 ≤ 16 * h.val + l.val ∧ 16 * h.val + l.val ≤ 14) ∨ (0x4C ≤ 16 * h.val + l.val ∧ 16 * h.val + l.val < 0x80) := by
  decide

/-- The addresses that no row of the map claims (R71). -/
theorem gClaim_unclaimed {a : Word}
    (h : (0xFEA0 ≤ a.toNat ∧ a.toNat < 0xFF00) ∨ (0xFF01 ≤ a.toNat ∧ a.toNat ≤ 0xFF03) ∨
      (0xFF08 ≤ a.toNat ∧ a.toNat ≤ 0xFF0E) ∨ (0xFF4C ≤ a.toNat ∧ a.toNat ≤ 0xFF7F)) :
    gClaim a = .unclaimed := by
  by_cases hio : 0xFF00 ≤ a.toNat
  · have := (ioClaim_unclaimed_nibbles ⟨(a.toNat - 0xFF00) / 16, by omega⟩ ⟨(a.toNat - 0xFF00) % 16, by omega⟩).mpr
      (by dsimp only; omega)
    rw [gClaim_io hio]
    rwa [show 16 * ((a.toNat - 0xFF00) / 16) + (a.toNat - 0xFF00) % 16 = a.toNat - 0xFF00 by omega] at this
  · exact gClaim_hole (by omega) (by omega)

namespace GStack

variable {g : GStack} {a : Word} {c : GCell} {m : BusMaster} {off : Nat}

theorem readAs_of_cellOf (h : g.cellOf m a = some c) : readAs m g a = (g.peek c, g) := by rw [readAs, h]

theorem write_of_cellOf (h : g.cellOf .cpu a = some c) (v : Byte) : g.write a v = g.poke c v := by rw [write, h]

theorem cellOf_vram (h : gClaim a = .vram off) (g : GStack) (m : BusMaster) :
    g.cellOf m a = if m == .cpu && g.vramBlocked then none else some (.vram, off) := by rw [cellOf, h]

theorem cellOf_oam (h : gClaim a = .oam off) (g : GStack) (m : BusMaster) :
    g.cellOf m a = if g.oamBlocked then none else some (.oam, off) := by rw [cellOf, h]

theorem cellOf_eram (h : gClaim a = .eram off) (g : GStack) (m : BusMaster) :
    g.cellOf m a = if g.eramOpen then some (.eram, g.eramOffset off) else none := by rw [cellOf, h]

theorem cellOf_wram (h : gClaim a = .wram off) (g : GStack) (m : BusMaster) :
    g.cellOf m a = some (.wram, off) := by rw [cellOf, h]

theorem cellOf_hram (h : gClaim a = .hram off) (g : GStack) (m : BusMaster) :
    g.cellOf m a = some (.hram, off) := by rw [cellOf, h]

/-- Closed storage reads 0xFF and drops writes (R106, R107, R123). -/
theorem access_closed (hc : gClaim a = .vram off ∨ gClaim a = .oam off ∨ gClaim a = .eram off)
    (h : g.cellOf .cpu a = none) (v : Byte) : g.read a = (0xFF, g) ∧ g.write a v = g := by
  simp only [read, readAs, write, h, readRegister, writeRegister]
  obtain hc | hc | hc := hc <;> simp only [hc, and_self]

/-- The ROM windows (R121). -/
theorem read_rom (g : GStack) (h : a.toNat < 0x8000) : g.read a = (g.cart.rom.read (g.romOffset a.toNat), g) := by
  simp only [read, readAs, cellOf, readRegister, gClaim_rom h]

theorem write_rom (g : GStack) (h : a.toNat < 0x8000) (v : Byte) : g.write a v = g.mbcWrite a.toNat v := by
  simp only [write, cellOf, writeRegister, gClaim_rom h]

theorem peek_poke_self (hg : g.Inv) (c : GCell) (v : Byte) : (g.poke c v).peek c = v := by
  obtain ⟨r, o⟩ := c
  cases r
  · exact Memory.read_write_self hg.vram.1 o v
  · exact Memory.read_write_self hg.wram.1 o v
  · exact Memory.read_write_self hg.oam.1 o v
  · exact Memory.read_write_self hg.hram.1 o v
  · exact Memory.read_write_self hg.eram.1 o v

/-- A store to a byte of storage leaves alone which byte an address reaches. -/
theorem cellOf_poke (g : GStack) (c : GCell) (v : Byte) (m : BusMaster) (a : Word) :
    (g.poke c v).cellOf m a = g.cellOf m a := by
  obtain ⟨hp, hm, hc⟩ := g.poke_keeps c v
  exact cellOf_congr (by rw [hp]) (by rw [hp]) hc (fun _ => hm) m

/-- What is stored in open storage is read back, and the read changes nothing (R72). -/
theorem read_write_of_cellOf (hg : g.Inv) (h : g.cellOf .cpu a = some c) (v : Byte) :
    (g.write a v).read a = (v, g.write a v) := by
  rw [write_of_cellOf h, read_eq, readAs_of_cellOf ((g.cellOf_poke c v .cpu a).trans h), peek_poke_self hg]

end GStack

end Sys2Proof.Machine

namespace Sys2Proof.Proofs

open Sys2Proof.Machine

/-- Settles O27: every address listed reaches a byte of storage, and such a byte reads back as written. -/
theorem readAfterWriteOfStorage : Obligations.ReadAfterWriteOfStorage := by
  unfold Obligations.ReadAfterWriteOfStorage
  refine ⟨fun n a v hn h => ?_, fun g a v hg h => ?_⟩
  · have hc : ∃ c, n.cellOf a = some c := by
      obtain h | ⟨h, h'⟩ := h
      · exact ⟨_, by rw [NStack.cellOf, nClaim_ram h]⟩
      · exact ⟨_, by rw [NStack.cellOf, nClaim_prgRam h h']⟩
    obtain ⟨c, hc⟩ := hc
    exact NStack.read_write_of_cellOf hn hc v
  · have hc : ∃ c, g.cellOf .cpu a = some c := by
      obtain ⟨h, h', ho⟩ | ⟨h, h', hs, he⟩ | ⟨h, h'⟩ | ⟨h, h', ho⟩ | ⟨h, h'⟩ := h
      · exact ⟨_, by rw [GStack.cellOf_vram (gClaim_vram h h'), ho]; rfl⟩
      · exact ⟨_, by rw [GStack.cellOf_eram (gClaim_eram h h'), if_pos (by simp [GStack.eramOpen, hs, he])]⟩
      · exact ⟨_, GStack.cellOf_wram (gClaim_wram h h') g _⟩
      · exact ⟨_, by rw [GStack.cellOf_oam (gClaim_oam h h'), ho]; rfl⟩
      · exact ⟨_, GStack.cellOf_hram (gClaim_hram h h') g _⟩
    obtain ⟨c, hc⟩ := hc
    exact GStack.read_write_of_cellOf hg hc v

/-- Settles O28: a mirror has the claim of its canonical address, and an unclaimed address has none. -/
theorem mirrorsAndUnclaimedAddresses : Obligations.MirrorsAndUnclaimedAddresses := by
  unfold Obligations.MirrorsAndUnclaimedAddresses
  refine ⟨⟨fun n a v h => ?_, fun n a v h h' => ?_, fun m g a v h h' => ?_⟩, fun n a v h h' => ?_, fun g a v h => ?_⟩
  · have hn : (a &&& 0x07FF).toNat = a.toNat % 0x800 := Nat.and_two_pow_sub_one_eq_mod a.toNat 11
    have hc : nClaim a = nClaim (a &&& 0x07FF) := by
      rw [nClaim_ram h, nClaim_ram (by omega), hn, Nat.mod_mod]
    exact ⟨NStack.read_congr hc n, NStack.write_congr hc n v⟩
  · have hn : (a &&& 7).toNat = a.toNat % 8 := Nat.and_two_pow_sub_one_eq_mod a.toNat 3
    have hs : (0x2000 + (a &&& 7)).toNat = 0x2000 + a.toNat % 8 := by
      rw [BitVec.toNat_add, hn]
      exact Nat.mod_eq_of_lt (by omega : 0x2000 + a.toNat % 8 < 65536)
    have hc : nClaim a = nClaim (0x2000 + (a &&& 7)) := by
      rw [nClaim_port h h', nClaim_port (by omega) (by omega), hs]
      exact congrArg NClaim.ppuPort (by omega)
    exact ⟨NStack.read_congr hc n, NStack.write_congr hc n v⟩
  · have hs : (a - 0x2000).toNat = a.toNat - 0x2000 := by bv_omega
    have ha := GStack.cellOf_wram (gClaim_wram (by omega) h') g
    have hb := GStack.cellOf_wram (gClaim_wram (a := a - 0x2000) (by omega) (by omega)) g
    rw [hs, show (a.toNat - 0x2000 - 0xC000) % 0x2000 = (a.toNat - 0xC000) % 0x2000 by omega] at hb
    rw [GStack.readAs_of_cellOf (ha m), GStack.readAs_of_cellOf (hb m), GStack.write_of_cellOf (ha _),
      GStack.write_of_cellOf (hb _)]
    exact ⟨rfl, rfl⟩
  · simp only [NStack.read, NStack.write, NStack.cellOf, NStack.readRegister, NStack.writeRegister, nClaim_device h h']
    refine ⟨fun h1 h2 => ?_, fun h1 h2 => ?_⟩
    · rw [if_neg h1, if_neg h2]
      split_ifs <;> rfl
    · rw [if_neg h1, if_neg h2]
      split_ifs <;> rfl
  · simp only [GStack.read, GStack.readAs, GStack.write, GStack.cellOf, GStack.readRegister, GStack.writeRegister,
      gClaim_unclaimed h]
    exact ⟨rfl, trivial⟩

end Sys2Proof.Proofs
end

section
/-! Proofs. The registers of the G-stack's devices, its video memory and the cartridges on the bus. -/

open Sys2Proof.Stated

namespace Sys2Proof.Machine

/-! ### Bits as numbers -/

theorem hiByte_eq_ofNat (v : Word) : hiByte v = BitVec.ofNat 8 (v.toNat / 256) := by
  apply BitVec.eq_of_toNat_eq
  rw [toNat_hiByte, BitVec.toNat_ofNat, Nat.mod_eq_of_lt (by omega)]

theorem fixed_append_tac : ∀ t : BitVec 3, (0b11111#5 ++ t : Byte) = BitVec.ofNat 8 (0xF8 + t.toNat) := by decide

theorem fixed_or_requests : ∀ r : BitVec 5, (0xE0 : Byte) ||| r.zeroExtend 8 = BitVec.ofNat 8 (0xE0 + r.toNat) := by
  decide

theorem extractLsb'_eq_ofNat_div (v : Byte) (start len : Nat) :
    v.extractLsb' start len = BitVec.ofNat len (v.toNat / 2 ^ start) := by
  rw [BitVec.extractLsb', Nat.shiftRight_eq_div_pow]

/-- STAT as a number (R97). -/
theorem stat_append : ∀ (sel : BitVec 4) (c : Bool) (m : PpuMode),
    (1#1 ++ sel ++ bit1 c ++ m.bits : Byte) =
      BitVec.ofNat 8 (128 + 8 * sel.toNat + (if c then 4 else 0) + m.bits.toNat) := by
  intro sel c m
  revert sel c
  cases m <;> decide

theorem toNat_bankHi_append : ∀ (hi : BitVec 2) (lo : BitVec 5), (hi ++ lo).toNat = hi.toNat * 32 + lo.toNat := by
  decide

/-- The value that enables the cartridge RAM (R122). -/
theorem enableNibble_eq : ∀ v : Byte, (v.extractLsb' 0 4 == 0xA) = decide (v.toNat % 16 = 10) := by decide

/-- The zero-to-one adjustment of the low bank (R122). -/
theorem lowBank_eq : ∀ v : Byte, (if v.extractLsb' 0 5 = 0 then 1 else v.extractLsb' 0 5) =
    if v.toNat % 32 = 0 then 1 else BitVec.ofNat 5 v.toNat := by decide

/-! ### The picture unit -/

/-- Two requests of the STAT interrupt, each under its condition (R525, R583). -/
theorem GIrq.requestIf_stat_twice (q : GIrq) (a b : Bool) : (q.requestIf a .stat).requestIf b .stat =
    { q with ifReg := q.ifReg ||| (if a = true ∨ b = true then 0b00010 else 0) } := by
  cases a <;> cases b <;> simp [requestIf, request, IrqBit.index, BitVec.or_assoc]

namespace GPpu

variable {p : GPpu} {v : Byte}

theorem lcdOn_eq_msb (p : GPpu) : p.lcdOn = p.lcdc.msb := by simp [lcdOn, BitVec.msb_eq_getLsbD_last]

theorem readStat_eq (p : GPpu) : p.readStat =
    BitVec.ofNat 8 (128 + 8 * p.statSel.toNat + (if p.ly = p.lyc then 4 else 0) + p.mode.bits.toNat) := by
  rw [readStat, stat_append, coincidence]
  simp only [beq_iff_eq]

/-- A write of LCDC that leaves `lcd_on` alone (R585). -/
theorem writeLcdc_of_same (h : v.msb = p.lcdc.msb) (q : GIrq) : p.writeLcdc v q = ({ p with lcdc := v }, q) := by
  simp [writeLcdc, lcdSwitch, lcdOn_eq_msb, h]

/-- The LCD switched off (R585). -/
theorem writeLcdc_off (hp : p.lcdc.msb = true) (hv : v.msb = false) (q : GIrq) :
    p.writeLcdc v q = ({ p with lcdc := v, ly := 0, dot := 0, mode := .hblank, winLine := 0 }, q) := by
  simp [writeLcdc, lcdSwitch, lcdOn_eq_msb, hp, hv]

/-- The LCD switched on enters line 0 with its two request points (R578, R583, R585). -/
theorem writeLcdc_on (hp : p.lcdc.msb = false) (hv : v.msb = true) (q : GIrq) :
    p.writeLcdc v q = ({ p with lcdc := v, ly := 0, dot := 0, mode := .oamSearch, winLine := 0 },
      { q with ifReg := q.ifReg |||
        (if p.statSel.getLsbD 2 = true ∨ (p.lyc = 0 ∧ p.statSel.getLsbD 3 = true) then 0b00010 else 0) }) := by
  have he : p.writeLcdc v q = enterLine 0 { p with lcdc := v, dot := 0 } q := by
    simp [writeLcdc, lcdSwitch, lcdOn_eq_msb, hp, hv]
  rw [he, enterLine]
  dsimp only
  rw [if_pos rfl, GIrq.requestIf_stat_twice]
  simp only [selMode2, selLyc, coincidence, BitVec.ofNat_eq_ofNat, Bool.and_eq_true, beq_iff_eq,
    eq_comm (a := 0#8)]

/-- The sprite layer does not look at the mode (R590). -/
theorem spritePixel_setMode (p : GPpu) (m : PpuMode) (vram oam : Memory) (x ly : Nat) (l : List Nat) :
    ({ p with mode := m } : GPpu).spritePixel vram oam x ly l = p.spritePixel vram oam x ly l := by
  induction l with
  | nil => rfl
  | cons i rest ih =>
    simp only [spritePixel, ih]
    rfl

theorem renderRow_setMode (p : GPpu) (m : PpuMode) (vram oam : Memory) (ly : Nat) (l : List Nat) :
    ({ p with mode := m } : GPpu).renderRow vram oam ly l = p.renderRow vram oam ly l := by
  simp only [renderRow, spritePixel_setMode]
  rfl

end GPpu

namespace GStack

theorem vramBlocked_iff (g : GStack) : g.vramBlocked = true ↔ g.ppu.lcdc.msb = true ∧ g.ppu.mode = .transfer := by
  simp [vramBlocked, GPpu.lcdOn_eq_msb]

theorem oamBlocked_iff (g : GStack) : g.oamBlocked = true ↔
    g.ppu.lcdc.msb = true ∧ (g.ppu.mode = .oamSearch ∨ g.ppu.mode = .transfer) := by
  simp [oamBlocked, GPpu.lcdOn_eq_msb]

/-- The video memory between 0x8000 and 0x9FFF (R106). -/
theorem access_vram (g : GStack) {a : Word} (h : 0x8000 ≤ a.toNat) (h' : a.toNat < 0xA000) (v : Byte) :
    if g.ppu.lcdc.msb = true ∧ g.ppu.mode = .transfer then g.read a = (0xFF, g) ∧ g.write a v = g
    else g.read a = (g.mem.vram.read (a.toNat - 0x8000), g) ∧ g.write a v = g.poke (.vram, a.toNat - 0x8000) v := by
  have hk := gClaim_vram h h'
  have hc := cellOf_vram hk g .cpu
  simp only [← vramBlocked_iff]
  split_ifs with hb
  · exact access_closed (.inl hk) (by rw [hc, hb]; rfl) v
  · have hc' : g.cellOf .cpu a = some (.vram, a.toNat - 0x8000) := by rw [hc, Bool.not_eq_true _ |>.mp hb]; rfl
    exact ⟨readAs_of_cellOf hc', write_of_cellOf hc' v⟩

/-- The object memory between 0xFE00 and 0xFE9F (R107). -/
theorem access_oam (g : GStack) {a : Word} (h : 0xFE00 ≤ a.toNat) (h' : a.toNat < 0xFEA0) (v : Byte) :
    if g.ppu.lcdc.msb = true ∧ (g.ppu.mode = .oamSearch ∨ g.ppu.mode = .transfer) then
      g.read a = (0xFF, g) ∧ g.write a v = g
    else g.read a = (g.mem.oam.read (a.toNat - 0xFE00), g) ∧ g.write a v = g.poke (.oam, a.toNat - 0xFE00) v := by
  have hk := gClaim_oam h h'
  have hc := cellOf_oam hk g .cpu
  simp only [← oamBlocked_iff]
  split_ifs with hb
  · exact access_closed (.inr (.inl hk)) (by rw [hc, if_pos hb]) v
  · rw [if_neg hb] at hc
    exact ⟨readAs_of_cellOf hc, write_of_cellOf hc v⟩

/-- The cartridge RAM (R123). -/
theorem access_eram (g : GStack) {a : Word} (h : 0xA000 ≤ a.toNat) (h' : a.toNat < 0xC000) (v : Byte) :
    if g.cart.ramSize = 0 ∨ g.mbc.ramEnable = false then g.read a = (0xFF, g) ∧ g.write a v = g
    else g.read a = (g.mem.eram.read (g.eramOffset (a.toNat - 0xA000)), g) ∧
      g.write a v = g.poke (.eram, g.eramOffset (a.toNat - 0xA000)) v := by
  have hk := gClaim_eram h h'
  have hc := cellOf_eram hk g .cpu
  have ho : g.eramOpen = true ↔ ¬ (g.cart.ramSize = 0 ∨ g.mbc.ramEnable = false) := by simp [eramOpen]
  split_ifs with hb
  · exact access_closed (.inr (.inr hk)) (by rw [hc, if_neg (fun he => ho.mp he hb)]) v
  · rw [if_pos (ho.mpr hb)] at hc
    exact ⟨readAs_of_cellOf hc, write_of_cellOf hc v⟩

theorem loBank_eq (g : GStack) : g.loBank =
    if g.cart.type = .mbc1 ∧ g.mbc.mode = true then g.mbc.bankHi.toNat * 32 % g.cart.romBanks else 0 := by
  unfold loBank
  cases g.cart.type <;> simp [toNat_bankHi_append]

theorem hiBank_eq (g : GStack) : g.hiBank =
    if g.cart.type = .mbc1 then (g.mbc.bankHi.toNat * 32 + g.mbc.bankLo.toNat) % g.cart.romBanks else 1 := by
  unfold hiBank
  cases g.cart.type <;> simp [toNat_bankHi_append]

/-- The four bank-select registers (R122). -/
theorem mbcWrite_mbc1 {g : GStack} (h : g.cart.type = .mbc1) (a : Nat) (v : Byte) :
    g.mbcWrite a v = { g with mbc :=
      if a < 0x2000 then { g.mbc with ramEnable := decide (v.toNat % 16 = 10) }
      else if a < 0x4000 then
        { g.mbc with bankLo := if v.toNat % 32 = 0 then 1 else BitVec.ofNat 5 v.toNat }
      else if a < 0x6000 then { g.mbc with bankHi := BitVec.ofNat 2 v.toNat }
      else { g.mbc with mode := decide (v.toNat % 2 = 1) } } := by
  unfold mbcWrite
  rw [h]
  dsimp only
  rw [enableNibble_eq, lowBank_eq, getLsbD_eq_decide, extractLsb'_eq_ofNat_div]
  split_ifs <;> simp

end GStack

/-- A write to 0x8000 and above is the mapper's (R117 to R119). -/
theorem NStack.write_mapper (n : NStack) {a : Word} (h : 0x8000 ≤ a.toNat) (v : Byte) :
    n.write a v = n.mapperWrite v := by
  simp only [write, cellOf, writeRegister, nClaim_mapper h]

end Sys2Proof.Machine

namespace Sys2Proof.Proofs

open Sys2Proof.Machine

/-- Settles O30: the two memories are closed exactly in those modes, and drawing does not look at the mode. -/
theorem videoMemoryArbitration : Obligations.VideoMemoryArbitration := by
  unfold Obligations.VideoMemoryArbitration
  exact fun g a v => ⟨fun h h' => g.access_vram h h' v, fun h h' => g.access_oam h h' v,
    fun vram oam ly sprites m => ⟨g.ppu.renderRow_setMode m vram oam ly sprites, rfl⟩⟩

/-- Settles O31: one register each, its fixed bits written as a number. -/
theorem timerAndInterruptRegisters : Obligations.TimerAndInterruptRegisters := by
  unfold Obligations.TimerAndInterruptRegisters
  intro g v t
  exact ⟨congrArg (·, g) (hiByte_eq_ofNat _), rfl, rfl, congrArg (·, g) (fixed_append_tac _),
    congrArg (·, g) (fixed_or_requests _), congrArg (·, g) (fixed_or_requests _), rfl, rfl, rfl, rfl, rfl, rfl⟩

/-- Settles O32: one register each; a write of LCDC by the three cases of its bit 7. -/
theorem pictureRegistersAndLcdSwitching : Obligations.PictureRegistersAndLcdSwitching := by
  unfold Obligations.PictureRegistersAndLcdSwitching
  have hlcdc (g : GStack) (v : Byte) :
      g.write 0xFF40 v = { g with ppu := (g.ppu.writeLcdc v g.irq).1, irq := (g.ppu.writeLcdc v g.irq).2 } := rfl
  refine ⟨fun g v => ?_, fun g v => ⟨fun hp hv => ?_, fun hp hv => ?_⟩⟩
  · have hstat : (g.read 0xFF41) = (g.ppu.readStat, g) := rfl
    refine ⟨rfl, ?_, rfl, rfl, rfl, rfl, rfl, rfl, rfl, rfl, rfl, rfl, fun h => ?_, ?_, rfl, rfl, rfl, rfl, rfl, rfl,
      rfl, rfl, rfl, rfl⟩
    · rw [hstat, GPpu.readStat_eq]
      cases g.ppu.mode <;> rfl
    · rw [hlcdc, GPpu.writeLcdc_of_same h]
    · rw [show BitVec.ofNat 4 (v.toNat / 8) = v.extractLsb' 3 4 from (extractLsb'_eq_ofNat_div v 3 4).symm]
      rfl
  · rw [hlcdc, GPpu.writeLcdc_off hp hv]
  · rw [hlcdc, GPpu.writeLcdc_on hp hv]

/-- Settles O33: the mapper of each cartridge, its windows and its registers. -/
theorem cartridgeBanks : Obligations.CartridgeBanks := by
  unfold Obligations.CartridgeBanks
  refine ⟨fun n a v h => ?_, fun g a v => ?_⟩
  · have ha := a.isLt
    dsimp only
    rw [NStack.read_rom_of_le n h, NStack.write_mapper n h, NCart.romOffset, NStack.mapperWrite]
    refine ⟨fun hm => ?_, fun hm => ?_, fun hm => ?_⟩
    · rw [hm]
      exact ⟨rfl, rfl⟩
    · rw [hm]
      refine ⟨?_, rfl⟩
      by_cases hlo : a.toNat < 0xC000
      · rw [if_pos hlo]
        dsimp only
        rw [if_pos (by omega)]
      · rw [if_neg hlo]
        dsimp only
        rw [if_neg (by omega), Nat.sub_sub]
    · rw [hm]
      exact ⟨rfl, rfl⟩
  · dsimp only
    rw [← GStack.loBank_eq, ← GStack.hiBank_eq]
    refine ⟨fun h => ?_, fun h h' => ?_, fun h ht => ?_, fun h ht => ?_, fun h h' => g.access_eram h h' v⟩
    · rw [g.read_rom (by omega), GStack.romOffset, if_pos h]
    · rw [g.read_rom h', GStack.romOffset, if_neg (by omega)]
    · rw [g.write_rom h, GStack.mbcWrite, ht]
    · rw [g.write_rom h, GStack.mbcWrite_mbc1 ht]

end Sys2Proof.Proofs
end

section
/-! Proofs. A step as a `Step` and the driver's turn, and the loop of RunFrame (R125 to R128, R503). -/

open Sys2Proof.Stated

namespace Sys2Proof.Machine

/-- Every instruction of either core ends in a next state (R74, R501). -/
theorem exists_exec (i : Instr) (s : State) : ∃ t, exec i s = .next t := by
  cases hi : i.stack with
  | nStack =>
    obtain ⟨f, hf, -⟩ := exec_m6502 hi
    exact ⟨_, hf s⟩
  | gStack =>
    obtain ⟨f, hf, -⟩ := exec_sm83 hi
    exact ⟨_, hf s⟩

/-- So does every `Step`, and the driver's turn follows it (R126). -/
theorem exists_cpuStep_step (s : State) : ∃ t, cpuStep s = .next t ∧ step s = .next t.finishStep := by
  have hc : ∃ t, cpuStep s = .next t := by
    cases hst : s.stack with
    | nStack =>
      obtain ⟨m, -, hm⟩ := s.n.exists_cpuStep
      exact ⟨_, hm s hst rfl⟩
    | gStack =>
      obtain ⟨m, -, hm⟩ := s.g.exists_cpuStep
      exact ⟨_, hm s hst rfl⟩
  obtain ⟨t, ht⟩ := hc
  exact ⟨t, ht, by rw [step, ht]⟩

/-! ### The driver's turn -/

theorem GTimer.advance_eq (c : Nat) (t : GTimer) (q : GIrq) : t.advance c q = GTimer.tick^[c] (t, q) :=
  repeatN_eq_iterate ..

theorem GPpu.advance_eq (vram oam : Memory) (c : Nat) (p : GPpu) (q : GIrq) :
    p.advance vram oam c q = if p.lcdc.msb then (GPpu.dotTick vram oam)^[c] (p, q) else (p, q) := by
  rw [GPpu.advance, GPpu.lcdOn_eq_msb, repeatN_eq_iterate]

/-- After a fault the driver does nothing (R126, R505). -/
theorem State.finishStep_of_faulted {s : State} (h : s.faulted = true) : s.finishStep = s := by
  unfold State.faulted at h
  unfold State.finishStep
  split at h
  · rw [NStack.finishStep, if_pos h]
  · rw [GStack.finishStep, if_pos h]

namespace NStack

/-- Everything the driver's turn can change (R126, R620). -/
theorem finishStep_after (n : NStack) : n.finishStep = { n with
    cpu := { n.cpu with nmiPending := n.finishStep.cpu.nmiPending }
    ppuPort := n.finishStep.ppuPort, frame := n.finishStep.frame } := by
  unfold finishStep
  split <;> rfl

@[simp] theorem finishStep_cycles (n : NStack) : n.finishStep.cycles = n.cycles := by rw [finishStep_after]

@[simp] theorem finishStep_faulted (n : NStack) : n.finishStep.cpu.faulted = n.cpu.faulted := by
  rw [finishStep_after]

/-- Without a fault the picture unit is advanced and the driver counts (R126). -/
theorem finishStep_eq {n : NStack} (h : n.cpu.faulted = false) : n.finishStep =
    { n.advance n.cycles with frame := n.frame.add (Config.frameBudget .nStack) n.cycles } := by
  rw [finishStep, if_neg (by rw [h]; exact Bool.false_ne_true)]
  rfl

/-- An instruction leaves the driver alone, and takes a cycle unless it faults (R503). -/
theorem Meaning.charges {i : Instr} {f : NStack → NStack} (hf : Meaning i f) (n : NStack) :
    (f n).frame = n.frame ∧ ((f n).cpu.faulted = false → 1 ≤ (f n).cycles) := by
  cases hf with
  | runs hr => exact ⟨(hr.reaches n).frame_eq, fun _ => one_le_two.trans (hr.cycles n).1⟩
  | ill op => exact ⟨rfl, nofun⟩

/-- A `Step` of the M6502 leaves the driver alone, and takes a cycle unless it faults (R503). -/
theorem CpuStep.charges {n m : NStack} (h : n.CpuStep m) :
    m.frame = n.frame ∧ (m.cpu.faulted = false → 1 ≤ m.cycles) := by
  cases h with
  | head hh =>
    have hi (v : Word) : (n.enterInterrupt n.cpu.pc false v).frame = n.frame :=
      (Reaches.enterInterrupt n n.cpu.pc false v).frame_eq
    unfold stepHead at hh
    split_ifs at hh with hf
    all_goals obtain rfl := Head.done.inj hh
    · exact ⟨rfl, fun h => absurd (hf.symm.trans h) nofun⟩
    · exact ⟨hi nmiVector, fun _ => Nat.zero_lt_succ _⟩
    · exact ⟨hi irqVector, fun _ => Nat.zero_lt_succ _⟩
    · unfold dmaArm
      split_ifs
      · exact ⟨rfl, nofun⟩
      · exact ⟨by simp [dmaUnit], fun _ => Nat.zero_lt_succ _⟩
  | instr hh hf =>
    obtain rfl := eq_of_stepHead_execute hh
    exact ⟨(hf.charges _).1.trans (reaches_fetch _).frame_eq, (hf.charges _).2⟩

end NStack

namespace GStack

/-- Everything the driver's turn can change (R126). -/
theorem finishStep_after (g : GStack) : g.finishStep = { g with
    timer := g.finishStep.timer, ppu := g.finishStep.ppu, irq := g.finishStep.irq
    apuPort := g.finishStep.apuPort, frame := g.finishStep.frame } := by
  unfold finishStep
  split <;> rfl

@[simp] theorem finishStep_cycles (g : GStack) : g.finishStep.cycles = g.cycles := by rw [finishStep_after]

@[simp] theorem finishStep_cpu (g : GStack) : g.finishStep.cpu = g.cpu := by rw [finishStep_after]

/-- Without a fault the peripherals are advanced and the driver counts (R126). -/
theorem finishStep_eq {g : GStack} (h : g.cpu.faulted = false) : g.finishStep =
    { g.advance g.cycles with frame := g.frame.add (Config.frameBudget .gStack) g.cycles } := by
  rw [finishStep, if_neg (by rw [h]; exact Bool.false_ne_true)]
  rfl

/-- An instruction leaves the driver alone, and takes a cycle unless it faults (R503). -/
theorem Meaning.charges {i : Instr} {f : GStack → GStack} (hf : Meaning i f) (g : GStack) :
    (f g).frame = g.frame ∧ ((f g).cpu.faulted = false → 1 ≤ (f g).cycles) := by
  obtain ⟨m, hr, hm⟩ := hf.frame g
  refine ⟨by rw [hm]; exact hr.frame_eq, fun hfault => ?_⟩
  obtain ⟨op, rfl⟩ | ⟨hc, -⟩ := hf.status g
  · cases hfault
  · omega

/-- A `Step` of the SM83 leaves the driver alone, and takes a cycle unless it faults (R503). -/
theorem CpuStep.charges {g m : GStack} (h : g.CpuStep m) :
    m.frame = g.frame ∧ (m.cpu.faulted = false → 1 ≤ m.cycles) := by
  cases h with
  | head hh =>
    unfold stepHead at hh
    split_ifs at hh with hf
    all_goals obtain rfl := Head.done.inj hh
    · exact ⟨rfl, fun h => absurd (hf.symm.trans h) nofun⟩
    · exact ⟨by simp [serviceInterrupt, push16], fun _ => Nat.zero_lt_succ _⟩
    · exact ⟨rfl, fun _ => Nat.zero_lt_succ _⟩
    · exact ⟨rfl, fun _ => Nat.zero_lt_succ _⟩
    · unfold dmaArm
      split_ifs
      · exact ⟨rfl, nofun⟩
      · exact ⟨by simp [dmaUnit, poke, releaseHalt, releaseStop], fun _ => Nat.zero_lt_succ _⟩
  | @instr m f hh hf =>
    have hm : m.frame = g.frame := by
      unfold stepHead at hh
      split_ifs at hh
      obtain rfl := Head.execute.inj hh
      rfl
    exact ⟨(hf.charges _).1.trans ((reaches_fetch m).frame_eq.trans hm), (hf.charges _).2⟩

end GStack

/-! ### The frame -/

/-- The driver's record of the session's stack. -/
def State.driver (s : State) : FrameDriver :=
  match s.stack with
  | .nStack => s.n.frame
  | .gStack => s.g.frame

theorem State.frameCount_eq (s : State) : s.frameCount = s.driver.count := by
  unfold State.frameCount State.driver
  cases s.stack <;> rfl

theorem State.Inv.count_lt {s : State} (h : s.Inv) : s.frameCount < Config.frameBudget s.stack := by
  unfold State.frameCount
  split
  · rename_i hst
    rw [hst]
    exact h.n.count
  · rename_i hst
    rw [hst]
    exact h.g.count

/-- What a step does to the driver: it counts the cycles of the `Step`, at least one, unless the session is faulted
after it (R126, R503). -/
theorem step_driver (s : State) : ∃ t, step s = .next t ∧ t.stack = s.stack ∧
    (t.faulted = false → 1 ≤ t.lastCycles ∧
      t.driver = s.driver.add (Config.frameBudget s.stack) t.lastCycles) := by
  cases hst : s.stack with
  | nStack =>
    obtain ⟨m, hm, hstep⟩ := step_nStack s.n
    refine ⟨_, hstep s hst rfl, hst, fun hf => ?_⟩
    obtain ⟨hframe, hc⟩ := hm.charges
    simp only [State.faulted, State.lastCycles, State.driver, hst, NStack.finishStep_faulted,
      NStack.finishStep_cycles] at hf ⊢
    exact ⟨hc hf, by rw [NStack.finishStep_eq hf, hframe]⟩
  | gStack =>
    obtain ⟨m, hm, hstep⟩ := step_gStack s.g
    refine ⟨_, hstep s hst rfl, hst, fun hf => ?_⟩
    obtain ⟨hframe, hc⟩ := hm.charges
    simp only [State.faulted, State.lastCycles, State.driver, hst, GStack.finishStep_cpu,
      GStack.finishStep_cycles] at hf ⊢
    exact ⟨hc hf, by rw [GStack.finishStep_eq hf, hframe]⟩

/-- The driver below the end of a frame counts on; at the end it carries less than the `Step` took (R126). -/
theorem FrameDriver.add_of_lt {budget c : Nat} {f : FrameDriver} (h : f.count + c < budget) :
    (f.add budget c).count = f.count + c := by
  rw [add, if_neg (by omega)]

theorem FrameDriver.add_of_le {budget c : Nat} {f : FrameDriver} (hf : f.count < budget) (h : budget ≤ f.count + c) :
    (f.add budget c).count = (f.add budget c).carry ∧ (f.add budget c).carry < c := by
  rw [add, if_pos h]
  exact ⟨rfl, by dsimp only; omega⟩

/-- How a frame has ended: by a fault, or with the overshoot carried (R126). -/
def State.FrameOver (t : State) (sentinel : Bool) : Prop :=
  t.Inv ∧ sentinel = t.faulted ∧
    (sentinel = false → t.driver.count = t.driver.carry ∧ t.driver.carry < t.lastCycles)

/-- The loop ends: every turn counts at least one cycle, and the fuel covers what is left of the budget. -/
theorem runFrameLoop_ends (fuel : Nat) {s : State} (hs : s.Inv)
    (hfuel : Config.frameBudget s.stack ≤ s.frameCount + fuel) :
    ∃ t sentinel, runFrameLoop fuel s = .next (t, sentinel) ∧ t.stack = s.stack ∧ t.FrameOver sentinel := by
  induction fuel generalizing s with
  | zero => exact absurd hs.count_lt (by omega)
  | succ fuel ih =>
    obtain ⟨t, hstep, hst, hd⟩ := step_driver s
    have ht : t.Inv := Proofs.stepKeepsInvariant s t hs hstep
    have hlt := hs.count_lt
    simp only [runFrameLoop, hstep]
    by_cases hf : t.faulted = true
    · rw [if_pos hf]
      exact ⟨t, true, rfl, hst, ht, hf.symm, nofun⟩
    rw [if_neg hf]
    rw [Bool.not_eq_true] at hf
    obtain ⟨hc, hadd⟩ := hd hf
    rw [State.frameCount_eq] at hlt hfuel ⊢
    rw [frameEnded]
    by_cases hend : Config.frameBudget s.stack ≤ s.driver.count + t.lastCycles
    · rw [if_pos (decide_eq_true hend)]
      refine ⟨t, false, rfl, hst, ht, hf.symm, fun _ => ?_⟩
      rw [hadd]
      exact FrameDriver.add_of_le hlt hend
    · rw [if_neg (by simpa using hend)]
      have hcount : t.frameCount = s.driver.count + t.lastCycles := by
        rw [State.frameCount_eq, hadd, FrameDriver.add_of_lt (by omega)]
      have := ih ht (by rw [hst, hcount]; omega)
      rwa [hst] at this

end Sys2Proof.Machine

namespace Sys2Proof.Proofs

open Sys2Proof.Machine

/-- Settles O51: the meanings of both cores end in a next state, and a step is one of them or an arm before it. -/
theorem everyStepAnswersNextState : Obligations.EveryStepAnswersNextState := by
  unfold Obligations.EveryStepAnswersNextState
  refine ⟨exists_exec, fun s => ?_⟩
  obtain ⟨t, -, ht⟩ := exists_cpuStep_step s
  exact ⟨_, ht⟩

/-- Settles O50: a step is a `Step` and the driver's turn, and the turn's repetitions are iterations. -/
theorem peripheralsFollowTheCpu : Obligations.PeripheralsFollowTheCpu := by
  unfold Obligations.PeripheralsFollowTheCpu
  refine ⟨exists_cpuStep_step, fun s => State.finishStep_of_faulted, fun s => ⟨fun hst hf => ?_, fun hst hf => ?_⟩⟩
  · simp only [State.finishStep, hst, GStack.finishStep_eq hf, GStack.advance, GTimer.advance_eq, GPpu.advance_eq]
    rfl
  · simp only [State.finishStep, hst, NStack.finishStep_eq hf]
    rfl

/-- Settles O54: the fuel of the loop is the budget, and each turn that goes on counts at least one cycle. -/
theorem runFrameEnds : Obligations.RunFrameEnds := by
  unfold Obligations.RunFrameEnds
  intro s hs
  obtain ⟨t, b, hrun, hst, hinv, hb, hover⟩ := runFrameLoop_ends (Config.frameBudget s.stack) hs (Nat.le_add_left _ _)
  refine ⟨t, b, hrun, hinv, hb, fun hbf => ⟨fun h => ?_, fun h => ?_⟩⟩
  · simpa only [State.driver, State.lastCycles, hst, h] using hover hbf
  · simpa only [State.driver, State.lastCycles, hst, h] using hover hbf

end Sys2Proof.Proofs
end

section
/-! Proofs. The DMA engines: one unit of each, and a whole transfer of the G-stack (R86, R87, R100, R101). -/

open Sys2Proof.Stated

namespace Sys2Proof.Machine

/-! ### One unit -/

namespace NStack

/-- With nothing before it in R502 the DMA arm is taken. -/
theorem stepHead_dma {n : NStack} (hf : n.cpu.faulted = false) (hn : n.cpu.nmiPending = false)
    (hi : n.cpu.irqLine = false ∨ n.cpu.p.i = true) (ha : n.dma.active = true) : n.stepHead = .done n.dmaArm := by
  have hirq : (n.cpu.irqLine && !n.cpu.p.i) = false := by
    obtain h | h := hi <;> simp [h]
  simp [stepHead, hf, hn, hirq, ha]

/-- Where the next unit reads (R87). -/
def dmaSource (n : NStack) : Word := join n.dma.page (BitVec.ofNat 8 n.dma.index)

/-- The DMA arm of a running transfer written out (R87). -/
theorem dmaArm_eq {n : NStack} (ha : n.dma.active = true) : n.dmaArm =
    if n.dma.index < 256 then
      { (n.read n.dmaSource).2 with
        ppuPort := .write 4 (n.read n.dmaSource).1 :: (n.read n.dmaSource).2.ppuPort
        dma := { active := decide (n.dma.index ≠ 255), page := n.dma.page, index := n.dma.index + 1 }
        cycles := 2 }
    else n.raiseFault .consistencyDma := by
  rw [dmaArm, Config.mDmaUnits]
  by_cases hk : n.dma.index < 256
  · rw [if_neg (by omega), if_pos hk, dmaUnit, write_dmaPort]
    simp only [portEvent_dma, read_dma, ha, Config.mDmaUnits]
    have he : (if n.dma.index + 1 = 256 then false else true) = decide (n.dma.index ≠ 255) := by
      by_cases h : n.dma.index = 255 <;> simp [h]
    rw [he]
    rfl
  · rw [if_pos (by omega), if_neg hk]

end NStack

/-- The claim is video memory. -/
def GClaim.isVram : GClaim → Bool
  | .vram _ => true
  | _ => false

namespace GStack

theorem releaseHalt_eq {g : GStack} (h : g.cpu.halted = false) : g.releaseHalt = g := by rw [releaseHalt, ← h]

theorem releaseStop_eq {g : GStack} (h : g.cpu.stopped = false) : g.releaseStop = g := by rw [releaseStop, ← h]

/-- With nothing before it in R502 the DMA arm is taken. -/
theorem stepHead_dma {g : GStack} (hf : g.cpu.faulted = false) (hi : g.cpu.ime = false) (hh : g.cpu.halted = false)
    (hs : g.cpu.stopped = false) (ha : g.dma.active = true) : g.stepHead = .done g.dmaArm := by
  have hr : g.releaseHalt.releaseStop = g := by rw [releaseHalt_eq hh, releaseStop_eq hs]
  simp [stepHead, hf, hi, hh, hs, ha, hr]

/-- Where the next unit reads (R101). -/
def dmaSource (g : GStack) : Word := join g.dma.src (BitVec.ofNat 8 g.dma.index)

/-- The DMA arm of a running transfer written out (R101). -/
theorem dmaArm_eq {g : GStack} (ha : g.dma.active = true) : g.dmaArm =
    if g.dma.index < 160 then
      { (readAs .dma g g.dmaSource).2 with
        mem := { g.mem with oam := g.mem.oam.write g.dma.index (readAs .dma g g.dmaSource).1 }
        dma := { active := decide (g.dma.index ≠ 159), src := g.dma.src, index := g.dma.index + 1 }
        cycles := 4 }
    else g.raiseFault .consistencyDma := by
  rw [dmaArm, Config.gDmaUnits]
  by_cases hk : g.dma.index < 160
  · rw [if_neg (by omega), if_pos hk, dmaUnit]
    simp only [poke, readAs_dma, readAs_mem, ha, Config.gDmaUnits]
    have he : (if g.dma.index + 1 = 160 then false else true) = decide (g.dma.index ≠ 159) := by
      by_cases h : g.dma.index = 159 <;> simp [h]
    rw [he]
    rfl
  · rw [if_pos (by omega), if_neg hk]

/-- VRAM is never closed to the DMA engine (R101). -/
theorem readAs_dma_vram (g : GStack) {a : Word} (h : 0x8000 ≤ a.toNat) (h' : a.toNat < 0xA000) :
    readAs .dma g a = (g.mem.vram.read (a.toNat - 0x8000), g) :=
  readAs_of_cellOf (cellOf_vram (gClaim_vram h h') g .dma)

theorem ioClaim_isVram_nibbles : ∀ h l : Fin 16, (ioClaim (16 * h + l)).isVram = false := by decide

theorem ioClaim_isVram {i : Nat} (h : i < 0x100) : (ioClaim i).isVram = false := by
  have := ioClaim_isVram_nibbles ⟨i / 16, by omega⟩ ⟨i % 16, by omega⟩
  rwa [show 16 * (i / 16) + i % 16 = i by omega] at this

theorem gClaim_isVram {a : Word} (h : a.toNat < 0x8000 ∨ 0xA000 ≤ a.toNat) : (gClaim a).isVram = false := by
  have ha := a.isLt
  obtain h | h | h | h | h | h : a.toNat < 0x8000 ∨ (0xA000 ≤ a.toNat ∧ a.toNat < 0xC000) ∨
      (0xC000 ≤ a.toNat ∧ a.toNat < 0xFE00) ∨ (0xFE00 ≤ a.toNat ∧ a.toNat < 0xFEA0) ∨
      (0xFEA0 ≤ a.toNat ∧ a.toNat < 0xFF00) ∨ 0xFF00 ≤ a.toNat := by omega
  · rw [gClaim_rom h]; rfl
  · rw [gClaim_eram h.1 h.2]; rfl
  · rw [gClaim_wram h.1 h.2]; rfl
  · rw [gClaim_oam h.1 h.2]; rfl
  · rw [gClaim_hole h.1 h.2]; rfl
  · rw [gClaim_io h]
    exact ioClaim_isVram (by omega)

/-- Elsewhere the DMA engine reads as the CPU does (R101). -/
theorem readAs_dma_eq_read (g : GStack) {a : Word} (h : a.toNat < 0x8000 ∨ 0xA000 ≤ a.toNat) :
    readAs .dma g a = g.read a := by
  have hc : g.cellOf .dma a = g.cellOf .cpu a := by
    have hk := gClaim_isVram h
    unfold cellOf
    generalize gClaim a = c at hk
    cases c
    case vram => cases hk
    all_goals rfl
  rw [read, readAs, readAs, hc]

end GStack

theorem cpuStep_of_nHead {s : State} {m : NStack} (hst : s.stack = .nStack) (h : s.n.stepHead = .done m) :
    cpuStep s = .next { s with n := m } := by
  simp only [cpuStep, State.stepHead, hst, h]

theorem cpuStep_of_gHead {s : State} {m : GStack} (hst : s.stack = .gStack) (h : s.g.stepHead = .done m) :
    cpuStep s = .next { s with g := m } := by
  simp only [cpuStep, State.stepHead, hst, h]

/-! ### A whole transfer -/

theorem GTimer.tick_div16 (p : GTimer × GIrq) : (GTimer.tick p).1.div16 = p.1.div16 + 1 := by
  have hi (t : GTimer) : t.timaInc.div16 = t.div16 := by
    unfold GTimer.timaInc
    split <;> rfl
  have hv (t : GTimer) : t.tickDivider.div16 = t.div16 + 1 := by
    unfold GTimer.tickDivider
    dsimp only
    split
    · rw [hi]
    · rfl
  have hd (t : GTimer) (q : GIrq) : (GTimer.tickDelay t q).1.div16 = t.div16 := by
    unfold GTimer.tickDelay
    split_ifs <;> rfl
  exact (hv _).trans (congrArg (· + 1) (hd p.1 p.2))

/-- The divider moves by the ticks (R561). -/
theorem GTimer.advance_div16 (c : Nat) (t : GTimer) (q : GIrq) :
    (t.advance c q).1.div16 = t.div16 + BitVec.ofNat 16 c := by
  rw [GTimer.advance_eq]
  induction c with
  | zero => exact (BitVec.add_zero _).symm
  | succ c ih =>
    rw [Function.iterate_succ_apply', GTimer.tick_div16, ih, BitVec.ofNat_add, BitVec.add_assoc]
    rfl

namespace GStack

theorem readAs_rom (m : BusMaster) (g : GStack) {a : Word} (h : a.toNat < 0x8000) :
    (readAs m g a).1 = g.cart.rom.read (g.romOffset a.toNat) := by
  simp only [readAs, cellOf, readRegister, gClaim_rom h]

theorem readAs_eram (m : BusMaster) (g : GStack) {a : Word} (h : 0xA000 ≤ a.toNat) (h' : a.toNat < 0xC000) :
    (readAs m g a).1 = if g.eramOpen then g.mem.eram.read (g.eramOffset (a.toNat - 0xA000)) else 0xFF := by
  simp only [readAs, cellOf, readRegister, gClaim_eram h h']
  split_ifs <;> rfl

/-- Below 0xFE00 the DMA engine's byte depends on the cartridge, its registers and the memories but `oam` (R101). -/
theorem readAs_dma_congr {g h : GStack} (hcart : h.cart = g.cart) (hmbc : h.mbc = g.mbc)
    (hmem : h.mem = { g.mem with oam := h.mem.oam }) {a : Word} (ha : a.toNat < 0xFE00) :
    (readAs .dma h a).1 = (readAs .dma g a).1 := by
  have hvram : h.mem.vram = g.mem.vram := by rw [hmem]
  have hwram : h.mem.wram = g.mem.wram := by rw [hmem]
  have heram : h.mem.eram = g.mem.eram := by rw [hmem]
  obtain hr | hr | hr | hr : a.toNat < 0x8000 ∨ (0x8000 ≤ a.toNat ∧ a.toNat < 0xA000) ∨
      (0xA000 ≤ a.toNat ∧ a.toNat < 0xC000) ∨ 0xC000 ≤ a.toNat := by omega
  · rw [readAs_rom _ _ hr, readAs_rom _ _ hr, romOffset, romOffset, loBank_eq, loBank_eq, hiBank_eq, hiBank_eq, hcart,
      hmbc]
  · simp only [readAs_dma_vram _ hr.1 hr.2, hvram]
  · rw [readAs_eram _ _ hr.1 hr.2, readAs_eram _ _ hr.1 hr.2, eramOpen, eramOpen, eramOffset, eramOffset, hcart, hmbc,
      heram]
  · simp only [readAs_of_cellOf (cellOf_wram (gClaim_wram hr ha) _ _), peek, hwram]

/-- What `k` units of a transfer from `g` have made of the stack (R101). -/
structure Transferred (g : GStack) (k : Nat) (h : GStack) : Prop where
  inv : h.Inv
  cpu : h.cpu = g.cpu
  dma : h.dma = { active := decide (k < 160), src := g.dma.src, index := k }
  mem : h.mem = { g.mem with oam := h.mem.oam }
  oam : ∀ i < k, h.mem.oam.read i = (readAs .dma g (join g.dma.src (BitVec.ofNat 8 i))).1
  mbc : h.mbc = g.mbc
  cart : h.cart = g.cart
  joy : h.joy = g.joy
  div16 : h.timer.div16 = g.timer.div16 + BitVec.ofNat 16 (4 * k)

/-- One unit more: the next byte of the page, read as it was at the start. -/
theorem Transferred.unit {g h : GStack} {k : Nat} (ht : g.Transferred k h) (hk : k < 160)
    (hf : g.cpu.faulted = false) (hsrc : g.dma.src.toNat < 0xFE) :
    g.Transferred (k + 1) h.dmaArm.finishStep := by
  have hactive : h.dma.active = true := by rw [ht.dma]; exact decide_eq_true hk
  have hpage : h.dma.src = g.dma.src := by rw [ht.dma]
  have hindex : h.dma.index = k := by rw [ht.dma]
  have ha : (join g.dma.src (BitVec.ofNat 8 k)).toNat < 0xFE00 := by
    rw [toNat_join, BitVec.toNat_ofNat]
    omega
  have harm : h.dmaArm = { h with
      mem := { h.mem with oam := h.mem.oam.write k (readAs .dma g (join g.dma.src (BitVec.ofNat 8 k))).1 }
      dma := { active := decide (k ≠ 159), src := g.dma.src, index := k + 1 }
      cycles := 4 } := by
    rw [dmaArm_eq hactive, dmaSource, hpage, hindex, if_pos hk, readAs_eq .dma h (Or.inl (by omega)),
      readAs_dma_congr ht.cart ht.mbc ht.mem ha]
  obtain ⟨hinv, hcycles⟩ := ht.inv.dmaArm
  refine ⟨hinv.finishStep hcycles, ?_, ?_, ?_, ?_, ?_, ?_, ?_, ?_⟩
  · rw [finishStep_cpu, harm]
    exact ht.cpu
  · rw [finishStep_after, harm]
    exact congrArg (GDma.mk · _ _) (by simp only [decide_eq_decide]; omega)
  · rw [finishStep_after, harm, ht.mem]
  · rw [finishStep_after, harm]
    intro i hi
    dsimp only
    obtain rfl | hne := eq_or_ne i k
    · exact Memory.read_write_self ht.inv.oam.1 i _
    · rw [Memory.read_write_ne _ _ hne, ht.oam i (by omega)]
  · rw [finishStep_after, harm]
    exact ht.mbc
  · rw [finishStep_after, harm]
    exact ht.cart
  · rw [finishStep_after, harm]
    exact ht.joy
  · have hfault : h.dmaArm.cpu.faulted = false := by rw [harm, ← hf, ← ht.cpu]
    rw [finishStep_eq hfault]
    change (h.dmaArm.timer.advance h.dmaArm.cycles h.dmaArm.irq).1.div16 = _
    rw [GTimer.advance_div16, harm, ht.div16, Nat.mul_succ, BitVec.ofNat_add, BitVec.add_assoc]

end GStack

theorem run_succ_of_next {M : Host.Core} {s s' : M.State} (h : M.step s = .next s') (k : Nat) :
    M.run (k + 1) s = M.run k s' := by
  rw [Host.Core.run, h]

/-- What every one of `n` steps carries on, a run of `n` steps does. -/
theorem run_of_steps {P : Nat → State → Prop} {n : Nat}
    (hstep : ∀ k t, k < n → P k t → ∃ u, step t = .next u ∧ P (k + 1) u) (j k : Nat) (t : State) (hk : k + j = n)
    (ht : P k t) : ∃ u, Host.Core.run core j t = .next u ∧ P n u := by
  induction j generalizing k t with
  | zero => exact ⟨t, rfl, by rwa [← hk]⟩
  | succ j ih =>
    obtain ⟨u, hu, hP⟩ := hstep k t (by omega) ht
    obtain ⟨w, hw, hPw⟩ := ih (k + 1) u (by omega) hP
    exact ⟨w, (run_succ_of_next (M := core) hu j).trans hw, hPw⟩

end Sys2Proof.Machine

namespace Sys2Proof.Proofs

open Sys2Proof.Machine

/-- Settles O36: the triggers, and one unit of each engine written out. -/
theorem dmaUnits : Obligations.DmaUnits := by
  unfold Obligations.DmaUnits
  refine ⟨fun s v => ⟨rfl, fun hst hf hn hi ha => ?_⟩, fun g v => ⟨rfl, GStack.dmaArm_eq, fun a => g.readAs_dma_vram,
    fun a => g.readAs_dma_eq_read⟩⟩
  rw [cpuStep_of_nHead hst (NStack.stepHead_dma hf hn hi ha), NStack.dmaArm_eq ha]
  rfl

/-- Settles O37: each step is one unit and the driver's turn, and 160 of them copy the page. -/
theorem wholeTransferCopiesSourcePage : Obligations.WholeTransferCopiesSourcePage := by
  unfold Obligations.WholeTransferCopiesSourcePage
  intro s hs hst hf hime hhalt hstop ha hi hsrc
  have hdma : s.g.dma = { active := true, src := s.g.dma.src, index := 0 } := by rw [← ha, ← hi]
  have hstart : s.g.Transferred 0 s.g := ⟨hs.g, rfl, hdma, rfl, nofun, rfl, rfl, rfl, (BitVec.add_zero _).symm⟩
  have hunit (k : Nat) (t : State) (hk : k < 160) (ht : ∃ h, s.g.Transferred k h ∧ t = { s with g := h }) :
      ∃ u, step t = .next u ∧ ∃ h, s.g.Transferred (k + 1) h ∧ u = { s with g := h } := by
    obtain ⟨h, ht, rfl⟩ := ht
    have hhead : h.stepHead = .done h.dmaArm :=
      GStack.stepHead_dma (by rw [ht.cpu, hf]) (by rw [ht.cpu, hime]) (by rw [ht.cpu, hhalt]) (by rw [ht.cpu, hstop])
        (by rw [ht.dma]; exact decide_eq_true hk)
    refine ⟨_, ?_, _, ht.unit hk hf hsrc, rfl⟩
    rw [step, cpuStep_of_gHead (s := { s with g := h }) hst hhead]
    simp only [State.finishStep, hst]
  obtain ⟨t, hrun, h, ht, rfl⟩ := run_of_steps hunit 160 0 s (Nat.zero_add _) ⟨s.g, hstart, rfl⟩
  exact ⟨_, hrun, ht.oam, ht.mem, ht.cpu, ht.dma, ht.mbc, ht.cart, ht.joy, rfl, ht.div16⟩

end Sys2Proof.Proofs
end

section
/-! Proofs. No computed offset leaves its buffer, so a drawn line depends on those buffers alone (R124, R600). -/

open Sys2Proof.Stated

namespace Sys2Proof.Machine

/-! ### The cartridges -/

/-- The program ROM is never left (R117 to R119, R124). -/
theorem NCart.romOffset_lt {c : NCart} (h : 1 ≤ c.prgUnits) (bank : Byte) {off : Nat} (ho : off < 0x8000) :
    c.romOffset bank off < c.prgUnits * 16384 := by
  have hmod : off % (c.prgUnits * 0x4000) < c.prgUnits * 16384 := Nat.mod_lt _ (by omega)
  have hbank : bank.toNat % c.prgUnits < c.prgUnits := Nat.mod_lt _ h
  unfold romOffset
  split
  · exact hmod
  · exact hmod
  · split_ifs <;> omega

namespace GStack

theorem loBank_lt {g : GStack} (h : 2 ≤ g.cart.romBanks) : g.loBank < g.cart.romBanks := by
  rw [loBank_eq]
  split_ifs
  · exact Nat.mod_lt _ (by omega)
  · omega

theorem hiBank_lt {g : GStack} (h : 2 ≤ g.cart.romBanks) : g.hiBank < g.cart.romBanks := by
  rw [hiBank_eq]
  split_ifs
  · exact Nat.mod_lt _ (by omega)
  · omega

/-- Neither ROM window leaves the cartridge (R121, R124). -/
theorem romOffset_lt {g : GStack} (h : 2 ≤ g.cart.romBanks) {a : Nat} (ha : a < 0x8000) :
    g.romOffset a < g.cart.romBanks * 16384 := by
  have hlo := loBank_lt h
  have hhi := hiBank_lt h
  unfold romOffset
  split_ifs <;> omega

theorem eramOffset_lt {g : GStack} (h : g.cart.ramSize ≠ 0) (off : Nat) : g.eramOffset off < g.cart.ramSize :=
  Nat.mod_lt _ (Nat.pos_of_ne_zero h)

end GStack

/-! ### The renderer -/

/-- Two memories with the same first `size` bytes. -/
def Memory.AgreesBelow (m : Memory) (size : Nat) (m' : Memory) : Prop := ∀ k < size, m.read k = m'.read k

namespace GPpu

theorem tilePixel_lt (vram : Memory) (addr col row : Nat) : tilePixel vram addr col row < 4 := by
  have hb (b : Bool) : b2n b ≤ 1 := by cases b <;> decide
  have hhi := hb ((vram.read (addr + 2 * row + 1)).getLsbD (7 - col))
  have hlo := hb ((vram.read (addr + 2 * row)).getLsbD (7 - col))
  unfold tilePixel
  dsimp only
  omega

/-- The tile data of the background and the window lie in `vram` (R593). -/
theorem bgTileAddr_lt (p : GPpu) (t : Byte) {row : Nat} (h : row < 8) : p.bgTileAddr t + 2 * row + 1 < 0x2000 := by
  have ht := t.isLt
  unfold bgTileAddr
  split_ifs <;> omega

/-- The maps lie in the last 2048 bytes of `vram` (R591, R592). -/
theorem mapOffset_range {base mx my : Nat} (hb : base = 0x1800 ∨ base = 0x1C00) (hx : mx < 256) (hy : my < 256) :
    0x1800 ≤ mapOffset base mx my ∧ mapOffset base mx my < 0x2000 := by
  unfold mapOffset
  omega

/-- A chosen sprite is one of the forty and lies on the line (R595). -/
theorem onLine_of_mem_selectSprites {p : GPpu} {oam : Memory} {ly i : Nat} (h : i ∈ p.selectSprites oam ly) :
    p.spriteOnLine oam ly i = true := by
  unfold selectSprites chosenSprites at h
  rw [mem_sortSprites] at h
  split at h
  · exact (List.mem_filter.mp (List.mem_of_mem_take h)).2
  · cases h

/-- The row of a sprite on the line, flipped or not, is one of its rows (R597). -/
theorem spriteRow_lt {p : GPpu} {oam : Memory} {ly i : Nat} (h : p.spriteOnLine oam ly i = true) :
    p.spriteRow oam ly i < p.spriteHeight := by
  simp only [spriteOnLine, Bool.and_eq_true, decide_eq_true_eq] at h
  obtain ⟨htop, hbottom⟩ := h
  unfold spriteRow
  dsimp only
  split_ifs <;> omega

/-- The tile data of a sprite lie in the first 4096 bytes of `vram` (R593, R597). -/
theorem spriteTileAddr_lt (p : GPpu) (oam : Memory) (i : Nat) {row : Nat} (h : row < p.spriteHeight) :
    p.spriteTileAddr oam i + 2 * row + 1 < 0x1000 := by
  have heven : (oam.read (4 * i + 2) &&& 0xFE).toNat ≤ 0xFE := Nat.and_le_right
  have ht := (oam.read (4 * i + 2)).isLt
  unfold spriteHeight at h
  unfold spriteTileAddr
  dsimp only
  split_ifs at h ⊢ <;> omega

/-! Two contents of the memories that agree on the 8192 bytes of `vram` and the 160 of `oam` are drawn alike. -/

variable {vram vram' oam oam' : Memory} (p : GPpu)

theorem tilePixel_congr (hv : vram.AgreesBelow 0x2000 vram') {addr row : Nat} (col : Nat)
    (h : addr + 2 * row + 1 < 0x2000) : tilePixel vram addr col row = tilePixel vram' addr col row := by
  rw [tilePixel, hv _ h, hv _ (by omega)]
  rfl

theorem mapPixel_congr (hv : vram.AgreesBelow 0x2000 vram') {base mx my : Nat}
    (hb : base = 0x1800 ∨ base = 0x1C00) (hx : mx < 256) (hy : my < 256) :
    p.mapPixel vram base mx my = p.mapPixel vram' base mx my := by
  rw [mapPixel, hv _ (mapOffset_range hb hx hy).2]
  exact tilePixel_congr hv _ (p.bgTileAddr_lt _ (Nat.mod_lt _ (by decide)))

theorem bgWinIndex_congr (hv : vram.AgreesBelow 0x2000 vram') {x : Nat} (hx : x < 160) (ly : Nat) :
    p.bgWinIndex vram x ly = p.bgWinIndex vram' x ly := by
  have hwin := p.winLine.isLt
  unfold bgWinIndex
  split_ifs
  · rfl
  all_goals exact p.mapPixel_congr hv (by decide) (by omega) (by omega)

theorem chosenSprites_congr (ho : oam.AgreesBelow 160 oam') (ly : Nat) :
    p.chosenSprites oam ly = p.chosenSprites oam' ly := by
  have hon : ∀ i ∈ List.range Config.ppuSprites, p.spriteOnLine oam ly i = p.spriteOnLine oam' ly i := by
    intro i hi
    have hi : i < 40 := List.mem_range.mp hi
    rw [spriteOnLine, ho _ (by omega)]
    rfl
  rw [chosenSprites, List.filter_congr hon]
  rfl

theorem insertSprite_congr (ho : oam.AgreesBelow 160 oam') {i : Nat} (hi : i < 40) {l : List Nat}
    (hl : ∀ j ∈ l, j < 40) : insertSprite oam i l = insertSprite oam' i l := by
  induction l with
  | nil => rfl
  | cons j rest ih =>
    obtain ⟨hj, hrest⟩ := List.forall_mem_cons.mp hl
    have hbefore : spriteBefore oam i j = spriteBefore oam' i j := by
      rw [spriteBefore, ho _ (by omega), ho _ (by omega)]
      rfl
    rw [insertSprite, insertSprite, hbefore, ih hrest]

theorem sortSprites_congr (ho : oam.AgreesBelow 160 oam') {l : List Nat} (hl : ∀ j ∈ l, j < 40) :
    sortSprites oam l = sortSprites oam' l := by
  induction l with
  | nil => rfl
  | cons i rest ih =>
    obtain ⟨hi, hrest⟩ := List.forall_mem_cons.mp hl
    rw [sortSprites, sortSprites, ih hrest]
    exact insertSprite_congr ho hi fun j hj => hrest j (mem_sortSprites.mp hj)

theorem selectSprites_congr (ho : oam.AgreesBelow 160 oam') (ly : Nat) :
    p.selectSprites oam ly = p.selectSprites oam' ly := by
  have hlt : ∀ i ∈ p.chosenSprites oam ly, i < 40 := fun i hi =>
    lt_of_mem_selectSprites (p := p) (ly := ly) (mem_sortSprites.mpr hi)
  rw [selectSprites, sortSprites_congr ho hlt, p.chosenSprites_congr ho]
  rfl

theorem pixelOfSprite_congr (hv : vram.AgreesBelow 0x2000 vram') (ho : oam.AgreesBelow 160 oam') (x : Nat)
    {ly i : Nat} (hi : i ∈ p.selectSprites oam ly) :
    p.pixelOfSprite vram oam x ly i = p.pixelOfSprite vram' oam' x ly i := by
  have hlt : i < 40 := lt_of_mem_selectSprites hi
  have h0 := ho (4 * i) (by omega)
  have h1 := ho (4 * i + 1) (by omega)
  have h2 := ho (4 * i + 2) (by omega)
  have h3 := ho (4 * i + 3) (by omega)
  have hrow : p.spriteRow oam' ly i = p.spriteRow oam ly i := by rw [spriteRow, spriteRow, h0, h3]
  have haddr : p.spriteTileAddr oam' i = p.spriteTileAddr oam i := by rw [spriteTileAddr, spriteTileAddr, h2]
  have htile (col : Nat) : tilePixel vram (p.spriteTileAddr oam i) col (p.spriteRow oam ly i) =
      tilePixel vram' (p.spriteTileAddr oam i) col (p.spriteRow oam ly i) :=
    tilePixel_congr hv col
      ((p.spriteTileAddr_lt oam i (spriteRow_lt (onLine_of_mem_selectSprites hi))).trans (by decide))
  simp only [pixelOfSprite, hrow, haddr, h1, h3, htile]

theorem spritePixel_congr (hv : vram.AgreesBelow 0x2000 vram') (ho : oam.AgreesBelow 160 oam') (x : Nat)
    {ly : Nat} {l : List Nat} (hl : ∀ i ∈ l, i ∈ p.selectSprites oam ly) :
    p.spritePixel vram oam x ly l = p.spritePixel vram' oam' x ly l := by
  induction l with
  | nil => rfl
  | cons i rest ih =>
    obtain ⟨hi, hrest⟩ := List.forall_mem_cons.mp hl
    rw [spritePixel, spritePixel, p.pixelOfSprite_congr hv ho x hi, ih hrest]

theorem renderRow_congr (hv : vram.AgreesBelow 0x2000 vram') (ho : oam.AgreesBelow 160 oam') (ly : Nat) :
    p.renderRow vram oam ly (p.selectSprites oam ly) = p.renderRow vram' oam' ly (p.selectSprites oam ly) := by
  refine List.map_congr_left fun x hx => ?_
  rw [p.bgWinIndex_congr hv (List.mem_range.mp hx), p.spritePixel_congr hv ho x fun _ hi => hi]

/-- A drawn line depends on the 8192 bytes of `vram` and the 160 of `oam` alone (R590, R600). -/
theorem renderLine_congr (hv : vram.AgreesBelow 0x2000 vram') (ho : oam.AgreesBelow 160 oam') (ly : Nat) :
    p.renderLine vram oam ly = p.renderLine vram' oam' ly := by
  rw [renderLine, p.renderRow_congr hv ho, p.selectSprites_congr ho]
  rfl

end GPpu

end Sys2Proof.Machine

namespace Sys2Proof.Proofs

open Sys2Proof.Machine

/-- Settles O34: a bound for each kind of offset, and from the bounds that a line reads inside the memories. -/
theorem computedOffsetsStayInRange : Obligations.ComputedOffsetsStayInRange := by
  unfold Obligations.ComputedOffsetsStayInRange
  refine ⟨fun c bank off h => NCart.romOffset_lt h bank, fun g a h => GStack.romOffset_lt h,
    fun g off h => GStack.eramOffset_lt h off, fun p t row => p.bgTileAddr_lt t,
    fun p vram base mx my hb hx hy => ⟨rfl, GPpu.mapOffset_range hb hx hy⟩, fun p oam ly i hi => ?_,
    fun p vram vram' oam oam' ly hv ho => p.renderLine_congr hv ho ly, GPpu.tilePixel_lt⟩
  have hlt : i < 40 := GPpu.lt_of_mem_selectSprites hi
  have hrow := GPpu.spriteRow_lt (GPpu.onLine_of_mem_selectSprites hi)
  exact ⟨by omega, hrow, p.spriteTileAddr_lt oam i hrow⟩

end Sys2Proof.Proofs
end

section
/-! Proofs. Save data: the bytes of a memory, and the memory made of them (R135). -/

open Sys2Proof.Stated

namespace Sys2Proof.Machine

/-- A key past every listed one reads as the default. -/
theorem sparseRead_of_below {α : Type} {dflt : α} {size key : Nat} {l : List (Nat × α)}
    (hl : sparseBelow size l = true) (h : size ≤ key) : sparseRead dflt l key = dflt := by
  induction l with
  | nil => rfl
  | cons e rest ih =>
    simp only [sparseBelow, List.all_cons, Bool.and_eq_true, decide_eq_true_eq] at hl
    rw [sparseRead, if_neg (by omega)]
    exact ih hl.2

namespace Memory

theorem length_toBytesFrom (m : Memory) (off size : Nat) : (m.toBytesFrom off size).length = size := by
  induction size generalizing off with
  | zero => rfl
  | succ size ih => rw [toBytesFrom, List.length_cons, ih]

theorem getD_toBytesFrom (m : Memory) (off : Nat) {size k : Nat} (h : k < size) :
    (m.toBytesFrom off size).getD k 0 = m.read (off + k) := by
  induction size generalizing off k with
  | zero => omega
  | succ size ih =>
    rw [toBytesFrom]
    cases k with
    | zero => rfl
    | succ k => rw [List.getD_cons_succ, ih _ (by omega), Nat.add_right_comm, Nat.add_assoc]

/-- All bytes of a memory are `size` bytes. -/
theorem length_toBytes (m : Memory) (size : Nat) : (m.toBytes size).length = size := m.length_toBytesFrom 0 size

theorem getD_toBytes (m : Memory) {size k : Nat} (h : k < size) : (m.toBytes size).getD k 0 = m.read k := by
  rw [toBytes, getD_toBytesFrom m 0 h, Nat.zero_add]

/-- The bytes of a memory make it again. -/
theorem ofBytes_toBytes {m : Memory} {size : Nat} (h : m.Ok size) : ofBytes (m.toBytes size) = m := by
  refine ext (ofBytes_wf _) h.1 fun k => ?_
  rw [read_ofBytes]
  by_cases hk : k < size
  · exact m.getD_toBytes hk
  · rw [List.getD_eq_default _ _ (by rw [length_toBytes]; omega)]
    exact (sparseRead_of_below h.2 (Nat.le_of_not_lt hk)).symm

end Memory

/-- Loading the bytes of a RAM gives it back (R135). -/
theorem loadBlob_toBytes {m : Memory} {size : Nat} (h : m.Ok size) : loadBlob size (some (m.toBytes size)) = m := by
  rw [loadBlob, Option.getD_some, List.take_of_length_le (m.length_toBytes size).le, Memory.ofBytes_toBytes h]

/-- What a blob leaves in a RAM of `size` bytes, read back as save data (R135). -/
theorem getD_toBytes_loadBlob (blob : List Byte) {size k : Nat} (h : k < size) :
    ((loadBlob size (some blob)).toBytes size).getD k 0 = blob.getD k 0 :=
  (Memory.getD_toBytes _ h).trans (read_loadBlob (some blob) h)

end Sys2Proof.Machine

namespace Sys2Proof.Proofs

open Sys2Proof.Machine

/-- Settles O60: on each stack save data are the bytes of one RAM, and that RAM is what its bytes make. -/
theorem saveDataRoundTrip : Obligations.SaveDataRoundTrip := by
  unfold Obligations.SaveDataRoundTrip
  rintro ⟨st, n, g⟩ blob ⟨hn, hg⟩
  cases st with
  | nStack =>
    have hram : loadBlob prgRamSize (some (n.prgRam.toBytes prgRamSize)) = n.prgRam := loadBlob_toBytes hn.prgRam
    simp only [State.loadSave, State.getSaveData, Memory.length_toBytes, hram]
    exact ⟨trivial, rfl, fun k hk => ⟨Memory.getD_toBytes _ hk, getD_toBytes_loadBlob blob hk⟩⟩
  | gStack =>
    simp only [State.loadSave, State.getSaveData, Memory.length_toBytes, loadBlob_toBytes hg.eram]
    exact ⟨trivial, rfl, fun k hk => ⟨Memory.getD_toBytes _ hk, getD_toBytes_loadBlob blob hk⟩⟩

end Sys2Proof.Proofs
end

section
/-! Proofs. The entries of the opcode tables: what an entry reads is what its instruction encodes to
(R140, R142, R160, R163). -/

namespace Sys2Proof

/-- What holds of every entry for the opcode of its place in a table of sixteen by sixteen, the entry of an opcode byte
has. -/
theorem getD_getD_of_forall_zipIdx {α : Type} {P : Byte → α → Prop} {table : List (List α)} {dflt : α}
    (h16 : table.map List.length = List.replicate 16 16)
    (ht : ∀ p ∈ table.zipIdx, ∀ q ∈ p.1.zipIdx, P (BitVec.ofNat 8 (16 * p.2 + q.2)) q.1) (op : Byte) :
    P op ((table.getD (op.toNat / 16) []).getD (op.toNat % 16) dflt) := by
  have hop := op.isLt
  have hlen : table.length = 16 := by simpa using congrArg List.length h16
  have hr : op.toNat / 16 < table.length := by omega
  have hc : op.toNat % 16 < (table[op.toNat / 16]).length := by
    have hmem : (table[op.toNat / 16]).length ∈ table.map List.length := List.mem_map_of_mem (List.getElem_mem hr)
    rw [h16] at hmem
    rw [List.eq_of_mem_replicate hmem]
    omega
  have := ht (table[op.toNat / 16], op.toNat / 16) (by simp [List.mem_zipIdx_iff_getElem?])
    ((table[op.toNat / 16])[op.toNat % 16], op.toNat % 16) (by simp [List.mem_zipIdx_iff_getElem?])
  rwa [Nat.div_add_mod, BitVec.ofNat_toNat, BitVec.setWidth_eq, ← List.getD_eq_getElem _ dflt hc,
    ← List.getD_eq_getElem _ [] hr] at this

@[simp] theorem wordBytes_join (hi lo : Byte) : wordBytes (join hi lo) = [lo, hi] := by simp [wordBytes]

/-- The bytes after the opcode of an entry of length `len` (R142, R160). -/
def operandBytes (len : Nat) (b1 b2 : Byte) : List Byte :=
  match len with
  | 0 | 1 => []
  | 2 => [b1]
  | _ => wordBytes (join b2 b1)

/-- The entry is that of the opcode `op`: one to three bytes long, its instructions well formed and encoded as `op` and
the operand bytes of that length, and no later byte looked at. -/
structure OpRow.Encodes (e : OpRow) (op : Byte) : Prop where
  len : e.len = 1 ∨ e.len = 2 ∨ e.len = 3
  operands : ∀ b1 b2, e.instr b1 b2 = e.instr (if 2 ≤ e.len then b1 else 0) (if 3 ≤ e.len then b2 else 0)
  wf : ∀ b1 b2, WellFormed (e.instr b1 b2) = true
  bytes : ∀ b1 b2, encode (e.instr b1 b2) = op :: operandBytes e.len b1 b2

theorem m6502Table_encodes : ∀ p ∈ m6502Table.zipIdx, ∀ q ∈ p.1.zipIdx,
    q.1.Encodes (BitVec.ofNat 8 (16 * p.2 + q.2)) := by
  simp only [m6502Table, m6502Row00, m6502Row10, m6502Row20, m6502Row30, m6502Row40, m6502Row50, m6502Row60,
    m6502Row70, m6502Row80, m6502Row90, m6502RowA0, m6502RowB0, m6502RowC0, m6502RowD0, m6502RowE0,
    m6502RowF0, List.zipIdx_cons, List.zipIdx_nil, List.forall_mem_cons, List.not_mem_nil, false_implies,
    implies_true, and_true]
  and_intros
  all_goals exact ⟨by decide, fun _ _ => rfl, fun _ _ => rfl, fun _ _ => rfl⟩

theorem cbTable_encodes : ∀ p ∈ cbTable.zipIdx, ∀ q ∈ p.1.zipIdx,
    WellFormed q.1 = true ∧ encode q.1 = [0xCB, BitVec.ofNat 8 (16 * p.2 + q.2)] := by decide +kernel

theorem decodeCb_encodes (cbop : Byte) :
    WellFormed (decodeCb cbop) = true ∧ encode (decodeCb cbop) = [0xCB, cbop] :=
  getD_getD_of_forall_zipIdx (P := fun b i => WellFormed i = true ∧ encode i = [0xCB, b]) rfl cbTable_encodes cbop

theorem cbPrefix_encodes : OpRow.cbPrefix.Encodes (BitVec.ofNat 8 0xCB) :=
  ⟨by decide, fun _ _ => rfl, fun b1 _ => (decodeCb_encodes b1).1, fun b1 _ => (decodeCb_encodes b1).2⟩

theorem sm83Table_encodes : ∀ p ∈ sm83Table.zipIdx, ∀ q ∈ p.1.zipIdx,
    q.1.Encodes (BitVec.ofNat 8 (16 * p.2 + q.2)) := by
  simp only [sm83Table, sm83Row00, sm83Row10, sm83Row20, sm83Row30, sm83Row40, sm83Row50, sm83Row60,
    sm83Row70, sm83Row80, sm83Row90, sm83RowA0, sm83RowB0, sm83RowC0, sm83RowD0, sm83RowE0, sm83RowF0,
    List.zipIdx_cons, List.zipIdx_nil, List.forall_mem_cons, List.not_mem_nil, false_implies, implies_true,
    and_true, zero_add, Nat.reduceAdd, Nat.reduceMul, cbPrefix_encodes, true_and]
  and_intros
  all_goals exact ⟨by decide, fun _ _ => rfl, fun _ _ => rfl, fun _ _ => rfl⟩

theorem m6502Row_encodes (op : Byte) : (m6502Row op).Encodes op :=
  getD_getD_of_forall_zipIdx (P := fun b e => OpRow.Encodes e b) rfl m6502Table_encodes op

theorem sm83Row_encodes (op : Byte) : (sm83Row op).Encodes op :=
  getD_getD_of_forall_zipIdx (P := fun b e => OpRow.Encodes e b) rfl sm83Table_encodes op

/-- Every entry of either table encodes what it decodes. -/
theorem opRow_encodes : ∀ (st : StackId) (op : Byte), (opRow st op).Encodes op
  | .nStack => m6502Row_encodes
  | .gStack => sm83Row_encodes

theorem opRow_instr_stack : ∀ (st : StackId) (op b1 b2 : Byte), ((opRow st op).instr b1 b2).stack = st
  | .nStack => decodeM6502_stack
  | .gStack => decodeSm83_stack

/-! ### The decoder on a list -/

theorem length_operandBytes {len : Nat} (h : len = 1 ∨ len = 2 ∨ len = 3) (b1 b2 : Byte) :
    (operandBytes len b1 b2).length = len - 1 := by
  obtain rfl | rfl | rfl := h <;> simp [operandBytes]

/-- The operand bytes are the next bytes of the list. -/
theorem operandBytes_append_drop {len : Nat} {bs : List Byte} (h : len = 1 ∨ len = 2 ∨ len = 3)
    (hl : len ≤ bs.length + 1) : operandBytes len (bs.getD 0 0) (bs.getD 1 0) ++ bs.drop (len - 1) = bs := by
  obtain rfl | rfl | rfl := h
  · rfl
  · obtain _ | ⟨b, bs⟩ := bs
    · simp at hl
    · rfl
  · obtain _ | ⟨b, _ | ⟨c, bs⟩⟩ := bs
    · simp at hl
    · simp at hl
    · simp [operandBytes]

/-- The decoder reads the operand bytes of its entry and leaves what follows. -/
theorem decode_cons_operandBytes (st : StackId) (op b1 b2 : Byte) (rest : List Byte) :
    decode st (op :: (operandBytes (opRow st op).len b1 b2 ++ rest)) = .ok ((opRow st op).instr b1 b2, rest) := by
  have he := opRow_encodes st op
  generalize hb : operandBytes (opRow st op).len b1 b2 ++ rest = bs
  have hlen : bs.length = (opRow st op).len - 1 + rest.length := by
    rw [← hb, List.length_append, length_operandBytes he.len]
  have hdrop : bs.drop ((opRow st op).len - 1) = rest := by
    rw [← hb, List.drop_left' (length_operandBytes he.len b1 b2)]
  have hinstr : (opRow st op).instr (bs.getD 0 0) (bs.getD 1 0) = (opRow st op).instr b1 b2 := by
    rw [he.operands (bs.getD 0 0), he.operands b1, ← hb]
    obtain h | h | h := he.len <;> simp [h, operandBytes]
  have h1 : ¬ bs.length + 1 < (opRow st op).len := by omega
  rw [decode, if_neg h1, hinstr, hdrop]

/-- What an answer of the decoder says of the bytes: an opcode, and no fewer bytes than its entry has. -/
theorem decode_eq_ok {st : StackId} {bs : List Byte} {i : Instr} {rest : List Byte} (h : decode st bs = .ok (i, rest)) :
    ∃ op tail, bs = op :: tail ∧ (opRow st op).len ≤ tail.length + 1 ∧
      i = (opRow st op).instr (tail.getD 0 0) (tail.getD 1 0) ∧ rest = tail.drop ((opRow st op).len - 1) := by
  cases bs with
  | nil => cases h
  | cons op tail =>
    rw [decode] at h
    split_ifs at h with hl
    cases h
    exact ⟨op, tail, rfl, Nat.le_of_not_lt hl, rfl, rfl⟩

end Sys2Proof

namespace Sys2Proof.Proofs

/-- Settles O2: the entry of the first byte encodes every instruction it gives, in as many bytes as it is long. -/
theorem encodeOfDecodeGivesBack : Obligations.EncodeOfDecodeGivesBack := by
  unfold Obligations.EncodeOfDecodeGivesBack
  intro st bs i rest h
  obtain ⟨op, tail, rfl, hl, rfl, rfl⟩ := decode_eq_ok h
  have he := opRow_encodes st op
  have hbytes := he.bytes (tail.getD 0 0) (tail.getD 1 0)
  refine ⟨?_, he.wf _ _, opRow_instr_stack .., op, rfl, ?_⟩
  · rw [hbytes, List.cons_append, operandBytes_append_drop he.len hl]
  · have := he.len
    rw [hbytes, List.length_cons, length_operandBytes he.len]
    omega

end Sys2Proof.Proofs
end

section
/-! Proofs. Every well-formed instruction has an entry in its core's table (R175 to R179, R203 to R282, R300). -/

namespace Sys2Proof

open Machine (join_hiByte_loByte)

/-- The entry of the instruction's first byte gives the instruction from the bytes after it. -/
def Instr.HasEntry (i : Instr) : Prop :=
  ∃ op bs, encode i = op :: bs ∧ (opRow i.stack op).instr (bs.getD 0 0) (bs.getD 1 0) = i

/-- The entry of a mode of operand gives back the operand from its bytes. -/
theorem OpRow.mem_instr (f : Operand → Instr) (o : Operand) :
    (OpRow.mem f o.mode).instr (o.bytes.getD 0 0) (o.bytes.getD 1 0) = f o := by
  cases o
  case abs | abx | aby => simp [OpRow.mem, Operand.mode, Operand.bytes, wordBytes]
  all_goals rfl

/-- An M6502 form whose opcodes stand in the table in the modes that the form has. -/
theorem hasEntry_of_encodeMode {f : Operand → Instr} {ops : List (Mode × Byte)} {modes : List Mode} {o : Operand}
    (he : encode (f o) = encodeMode ops o) (ho : modes.contains o.mode = true) (hs : (f o).stack = .nStack)
    (hm : ops.map Prod.fst = modes)
    (hr : ops.map (fun e => m6502Row e.2) = ops.map fun e => OpRow.mem f e.1) : (f o).HasEntry := by
  rw [← hm] at ho
  obtain ⟨e, hmem, hmode⟩ := List.mem_map.1 (List.contains_iff_mem.1 ho)
  obtain ⟨op, hop⟩ := Option.isSome_iff_exists.1 (List.lookup_isSome_iff.2 ⟨e, hmem, beq_iff_eq.2 hmode.symm⟩)
  obtain ⟨l, l', hl, -⟩ := List.lookup_eq_some_iff.1 hop
  have hrow : m6502Row op = OpRow.mem f o.mode := List.map_inj_left.1 hr (o.mode, op) (by simp [hl])
  refine ⟨op, o.bytes, by rw [he, encodeMode, hop], ?_⟩
  rw [hs]
  exact (congrArg (fun e : OpRow => e.instr _ _) hrow).trans (OpRow.mem_instr f o)

/-- An entry whose operand is a word gives back the word from its two bytes. -/
theorem hasEntry_of_word {f : Word → Instr} {op : Byte} {w : Word} (he : encode (f w) = op :: wordBytes w)
    (hr : (opRow (f w).stack op).instr (loByte w) (hiByte w) = f (join (hiByte w) (loByte w))) : (f w).HasEntry :=
  ⟨op, _, he, hr.trans (congrArg f (join_hiByte_loByte w))⟩

theorem m6502Row_undocumented : undocumentedOpcodes.map m6502Row = undocumentedOpcodes.map OpRow.ill := rfl

/-- Every well-formed instruction has its entry. -/
theorem hasEntry {i : Instr} (h : WellFormed i = true) : i.HasEntry := by
  cases i
  case lda | ldx | ldy | sta | stx | sty | adc | sbc | and | ora | eor | cmp | cpx | cpy | bit | inc | dec =>
    exact hasEntry_of_encodeMode rfl h rfl rfl rfl
  case asl o =>
    cases o
    case acc => exact ⟨_, _, rfl, rfl⟩
    case mem => exact hasEntry_of_encodeMode (f := fun o => .asl (.mem o)) rfl h rfl rfl rfl
  case lsr o =>
    cases o
    case acc => exact ⟨_, _, rfl, rfl⟩
    case mem => exact hasEntry_of_encodeMode (f := fun o => .lsr (.mem o)) rfl h rfl rfl rfl
  case rol o =>
    cases o
    case acc => exact ⟨_, _, rfl, rfl⟩
    case mem => exact hasEntry_of_encodeMode (f := fun o => .rol (.mem o)) rfl h rfl rfl rfl
  case ror o =>
    cases o
    case acc => exact ⟨_, _, rfl, rfl⟩
    case mem => exact hasEntry_of_encodeMode (f := fun o => .ror (.mem o)) rfl h rfl rfl rfl
  case jmp o =>
    cases o
    case abs => exact hasEntry_of_word (f := fun w => .jmp (.abs w)) rfl rfl
    case ind => exact hasEntry_of_word (f := fun w => .jmp (.ind w)) rfl rfl
  case jsr | ld_BC_d16 | ld_DE_d16 | ld_HL_d16 | ld_SP_d16 | ld_ma16_SP | ld_ma16_A | ld_A_ma16 | jp_a16 | jp_NZ_a16 |
    jp_Z_a16 | jp_NC_a16 | jp_C_a16 | call_a16 | call_NZ_a16 | call_Z_a16 | call_NC_a16 | call_C_a16 =>
    exact hasEntry_of_word rfl rfl
  case ill op =>
    have hrow : m6502Row op = OpRow.ill op :=
      List.map_inj_left.1 m6502Row_undocumented op (List.contains_iff_mem.1 h)
    exact ⟨op, [], rfl, congrArg (fun e : OpRow => e.instr 0 0) hrow⟩
  case prefixCB => cases h
  all_goals exact ⟨_, _, rfl, rfl⟩

end Sys2Proof

namespace Sys2Proof.Proofs

/-- Settles O1: the instruction's entry reads exactly the bytes that the entry's instruction encodes to. -/
theorem decodeOfEncodeGivesBack : Obligations.DecodeOfEncodeGivesBack := by
  unfold Obligations.DecodeOfEncodeGivesBack
  intro i rest h
  obtain ⟨op, bs, -, hi⟩ := hasEntry h
  have hbytes := (opRow_encodes i.stack op).bytes (bs.getD 0 0) (bs.getD 1 0)
  rw [hi] at hbytes
  rw [hbytes, List.cons_append, decode_cons_operandBytes, hi]

/-- Settles O3: the decoder on sixteen words. -/
theorem sampleWordsDecode : Obligations.SampleWordsDecode := by
  unfold Obligations.SampleWordsDecode
  and_intros
  all_goals rfl

end Sys2Proof.Proofs
end

section
/-! Proofs. The effective addresses of the M6502 as numbers (R146 to R151, R153, R154). -/

namespace Sys2Proof.Machine

theorem zext16_eq_ofNat (b : Byte) : zext16 b = BitVec.ofNat 16 b.toNat := by
  apply BitVec.eq_of_toNat_eq
  rw [toNat_zext16, BitVec.toNat_ofNat]
  omega

theorem add_zext16_eq_ofNat (a : Word) (b : Byte) : a + zext16 b = BitVec.ofNat 16 (a.toNat + b.toNat) := by
  apply BitVec.eq_of_toNat_eq
  rw [BitVec.toNat_add, toNat_zext16, BitVec.toNat_ofNat]

/-- An index sum crosses a page when its page as a number is another (R150). -/
theorem pageCrossed_add_zext16 (a : Word) (b : Byte) :
    pageCrossed a (a + zext16 b) = decide (a.toNat / 256 ≠ (a.toNat + b.toNat) % 65536 / 256) := by
  rw [Bool.eq_iff_iff]
  simp [pageCrossed, ← BitVec.toNat_inj]

end Sys2Proof.Machine

namespace Sys2Proof.Proofs

open Sys2Proof.Machine

/-- Settles O5: the sums of the modes as numbers; the pointers lie in page zero of `ram`. -/
theorem m6502EffectiveAddresses : Obligations.M6502EffectiveAddresses := by
  unfold Obligations.M6502EffectiveAddresses
  intro n b w x y zp base crosses
  have hsum (v : Byte) : (b + v).toNat = (b.toNat + v.toNat) % 256 := BitVec.toNat_add b v
  have hnext : (b + n.cpu.x + 1).toNat = (b.toNat + (x + 1)) % 256 := by
    rw [BitVec.toNat_add, hsum]
    change ((b.toNat + x) % 256 + 1) % 256 = _
    omega
  have hb : b.toNat = (b.toNat + 0) % 256 := by omega
  have hptr : n.zeroPagePointer b = (join (zp 1) (zp 0), n) := by
    rw [NStack.zeroPagePointer_eq]
    simp only [zp, ← hb]
    rfl
  refine ⟨?_, ?_, ?_, rfl, ?_, ?_, ?_, ?_, fun o ho => n.readOperand_of_ne_imm ho⟩
  · rw [NStack.resolve, zext16_eq_ofNat]
  · rw [NStack.resolve, zext16_eq_ofNat, hsum]
  · rw [NStack.resolve, zext16_eq_ofNat, hsum]
  · rw [NStack.resolve, pageCrossed_add_zext16, add_zext16_eq_ofNat]
  · rw [NStack.resolve, pageCrossed_add_zext16, add_zext16_eq_ofNat]
  · rw [NStack.resolve, NStack.zeroPagePointer_eq, hnext, hsum]
  · rw [NStack.resolve, hptr, pageCrossed_add_zext16, add_zext16_eq_ofNat]

end Sys2Proof.Proofs
end

section
/-! Proofs. A step with nothing to service is the instruction whose bytes stand at `PC` (R200, R310, R502). -/

open Sys2Proof.Stated

namespace Sys2Proof.Machine

namespace NStack

/-- The fetch reads as many bytes as the instruction is long and gives what these decode to (R141, R200). -/
theorem fetch_eq {n n1 n2 n3 : NStack} {op b1 b2 : Byte} (h0 : n.read n.cpu.pc = (op, n1))
    (h1 : n1.read (n.cpu.pc + 1) = (b1, n2)) (h2 : n2.read (n.cpu.pc + 2) = (b2, n3)) :
    n.fetch = (decodeM6502 op b1 b2,
      if (m6502Row op).len = 1 then n1 else if (m6502Row op).len = 2 then n2 else n3) := by
  have he := m6502Row_encodes op
  rw [decodeM6502, he.operands]
  obtain h | h | h := he.len <;>
    simp only [fetch, fetchIf, decodeM6502, h0, h1, h2, h, Nat.reduceLeDiff, decide_true, decide_false, if_true, if_false,
      Bool.false_eq_true, OfNat.ofNat_ne_one, Nat.reduceEqDiff]

theorem stepHead_of_nReady {n : NStack} (h : nReady n) : n.stepHead = .execute n := by
  obtain ⟨hf, hn, hi, hd⟩ := h
  have hirq : (n.cpu.irqLine && !n.cpu.p.i) = false := by obtain h | h := hi <;> simp [h]
  rw [stepHead, hf, hn, hirq, hd]
  rfl

end NStack

namespace GStack

/-- The fetch reads as many bytes as the instruction is long and gives what these decode to (R141, R310). -/
theorem fetch_eq {g g1 g2 g3 : GStack} {op b1 b2 : Byte} (h0 : g.read g.cpu.pc = (op, g1))
    (h1 : g1.read (g.cpu.pc + 1) = (b1, g2)) (h2 : g2.read (g.cpu.pc + 2) = (b2, g3)) :
    g.fetch = (decodeSm83 op b1 b2,
      if (sm83Row op).len = 1 then g1 else if (sm83Row op).len = 2 then g2 else g3) := by
  have he := sm83Row_encodes op
  rw [decodeSm83, he.operands]
  obtain h | h | h := he.len <;>
    simp only [fetch, fetchIf, decodeSm83, h0, h1, h2, h, Nat.reduceLeDiff, decide_true, decide_false, if_true, if_false,
      Bool.false_eq_true, OfNat.ofNat_ne_one, Nat.reduceEqDiff]

/-- Nothing to service, or a release of the halted or stopped state, leads to an instruction (R502, R533, R535). -/
theorem stepHead_of_gReady {g : GStack} (h : gReady g) : g.stepHead = .execute g.releaseHalt.releaseStop := by
  obtain ⟨hf, hi, hh, hs, hd⟩ := h
  have hirq : (g.cpu.ime && g.irq.pending != 0) = false := by obtain h | h := hi <;> simp [h]
  have hhalt : (g.cpu.halted && g.irq.pending == 0) = false := by
    obtain h | h := hh
    · rw [h, Bool.false_and]
    · rw [beq_false_of_ne h, Bool.and_false]
  have hstop : (g.cpu.stopped && !g.stopWakes) = false := by
    change (g.cpu.stopped && !g.irq.ifReg.getLsbD 4) = false
    obtain h | h := hs <;> simp [h]
  rw [stepHead, hf, hirq, hhalt, hstop, hd]
  rfl

end GStack

/-- With nothing to service a step is the fetched instruction and the driver's turn (R126, R502). -/
theorem step_of_execute {s u : State} (h : s.stepHead = .execute u) :
    ∃ t, exec u.fetch.1 u.fetch.2 = .next t ∧ step s = .next t.finishStep := by
  obtain ⟨t, ht⟩ := exists_exec u.fetch.1 u.fetch.2
  exact ⟨t, ht, by simp only [step, cpuStep, h, ht]⟩

end Sys2Proof.Machine

namespace Sys2Proof.Proofs

open Sys2Proof.Machine

/-- Settles O47: the head leads to the fetch, and the fetch gives what the bytes at `PC` decode to. -/
theorem stepRunsDecodedM6502Instruction : Obligations.StepRunsDecodedM6502Instruction := by
  unfold Obligations.StepRunsDecodedM6502Instruction
  rintro ⟨_, n, g⟩ op b1 b2 n1 n2 n3 i rest rfl hready h0 h1 h2 hdec
  dsimp only at hready h0 h1 h2 ⊢
  obtain ⟨-, hwf, -, _, ⟨⟩, hlen⟩ := encodeOfDecodeGivesBack _ _ _ _ hdec
  obtain ⟨_, _, ⟨⟩, -, rfl, -⟩ := decode_eq_ok hdec
  have hhead : State.stepHead ⟨.nStack, n, g⟩ = .execute ⟨.nStack, n, g⟩ := by
    simp only [State.stepHead, NStack.stepHead_of_nReady hready]
  obtain ⟨t, ht, hstep⟩ := step_of_execute hhead
  simp only [State.fetch, NStack.fetch_eq h0 h1 h2] at ht
  rw [hlen]
  exact ⟨hwf, t, ht, hstep⟩

/-- Settles O48: the same, after the head has released a halted or stopped core. -/
theorem stepRunsDecodedSm83Instruction : Obligations.StepRunsDecodedSm83Instruction := by
  unfold Obligations.StepRunsDecodedSm83Instruction
  rintro ⟨_, n, g⟩ op b1 b2 g1 g2 g3 i rest g0 rfl hready h0 h1 h2 hdec
  dsimp only at hready h1 h2 ⊢
  obtain ⟨-, hwf, -, _, ⟨⟩, hlen⟩ := encodeOfDecodeGivesBack _ _ _ _ hdec
  obtain ⟨_, _, ⟨⟩, -, rfl, -⟩ := decode_eq_ok hdec
  have hhead : State.stepHead ⟨.gStack, n, g⟩ = .execute ⟨.gStack, n, g0⟩ := by
    simp only [State.stepHead, GStack.stepHead_of_gReady hready]
    rfl
  obtain ⟨t, ht, hstep⟩ := step_of_execute hhead
  simp only [State.fetch, GStack.fetch_eq (g := g0) h0 h1 h2] at ht
  rw [hlen]
  exact ⟨hwf, t, ht, hstep⟩

end Sys2Proof.Proofs
end

section
/-! Proofs. The cycles of an opcode: what one state says of them holds of every state, but for the crossed pages of the
M6502 and the conditions of the SM83 (R156, R175, R670, R673). -/

namespace Sys2Proof.Machine

/-! ### The SM83: an Operation charges nothing but in a conditional transfer that is taken (R310, R430) -/

namespace GStack

@[simp] theorem instr_cycles (len cost : Nat) (op : GStack → GStack) (g : GStack) :
    (instr len cost op g).cycles = (op (g.start len cost)).cycles := tickIme_cycles _

@[simp] theorem get8_cycles (g : GStack) (r : R8) : (g.get8 r).2.cycles = g.cycles := by
  unfold get8
  split
  · rfl
  · exact read_cycles ..

@[simp] theorem set8_cycles (g : GStack) (r : R8) (v : Byte) : (g.set8 r v).cycles = g.cycles := by
  cases r
  case mHL => exact write_cycles ..
  all_goals rfl

@[simp] theorem modify8_cycles (r : R8) (op : Sm83Flags → Byte → Byte × Sm83Flags) (g : GStack) :
    (modify8 r op g).cycles = g.cycles := by simp [modify8]

@[simp] theorem memStep_cycles (g : GStack) (m : R16Mem) : (g.memStep m).cycles = g.cycles := by cases m <;> rfl

@[simp] theorem loadA_cycles (g : GStack) (a : Word) : (g.loadA a).cycles = g.cycles := by simp [loadA]

@[simp] theorem aluA_cycles (op : AluOp) (g : GStack) (m : Byte) : (g.aluA op m).cycles = g.cycles := rfl

@[simp] theorem push16_cycles (g : GStack) (v : Word) : (g.push16 v).cycles = g.cycles := by simp [push16]

@[simp] theorem jump_cycles (g : GStack) (a : Word) : (g.jump a).cycles = g.cycles := rfl

@[simp] theorem callTo_cycles (g : GStack) (a : Word) : (g.callTo a).cycles = g.cycles := by simp [callTo]

@[simp] theorem popPc_cycles (g : GStack) : g.popPc.cycles = g.cycles := by simp [popPc]

@[simp] theorem returnFromInterrupt_cycles (g : GStack) : g.returnFromInterrupt.cycles = g.cycles := by
  simp [returnFromInterrupt]

@[simp] theorem ifCond_cycles (cc : Cond) (taken : Nat) (f : GStack → GStack) (g : GStack) :
    (ifCond cc taken f g).cycles =
      bif condHolds cc g.cpu.f then (f { g with cycles := taken }).cycles else g.cycles := by
  unfold ifCond
  cases condHolds cc g.cpu.f <;> rfl

end GStack

/-- From states with the same flags both instructions end, and charge the same. -/
def SameCost (i j : Instr) : Prop := ∀ s s' : State, s.g.cpu.f = s'.g.cpu.f →
  ∃ t t', exec i s = .next t ∧ exec j s' = .next t' ∧ t.g.cycles = t'.g.cycles

open GStack in
/-- The cost of an entry of the base table depends on the flags alone; 0xCB leads to the second table. -/
theorem sm83Table_sameCost : ∀ p ∈ sm83Table.zipIdx, ∀ q ∈ p.1.zipIdx, BitVec.ofNat 8 (16 * p.2 + q.2) ≠ 0xCB#8 →
    ∀ b1 b2, SameCost (q.1.instr b1 b2) (q.1.instr 0 0) := by
  simp only [sm83Table, sm83Row00, sm83Row10, sm83Row20, sm83Row30, sm83Row40, sm83Row50, sm83Row60,
    sm83Row70, sm83Row80, sm83Row90, sm83RowA0, sm83RowB0, sm83RowC0, sm83RowD0, sm83RowE0, sm83RowF0,
    List.zipIdx_cons, List.zipIdx_nil, List.forall_mem_cons, List.not_mem_nil, false_implies, implies_true, and_true,
    true_and, zero_add, Nat.reduceAdd, Nat.reduceMul, ne_eq, BitVec.reduceEq, not_true_eq_false, not_false_eq_true,
    true_implies]
  and_intros
  all_goals
    refine fun b1 b2 s s' h => ⟨_, _, rfl, rfl, ?_⟩
    simp [ldRR, ldRD8, ldRMem, ldMemR, ldMemD8, ldAMem, ldMemA, ldAAddr, ldAddrA, ldRrD16, ldAddrSp, ldSpHl, ldHlSp,
      push, pop, aluR, aluD8, incR, decR, onRegs, rotA, addHlRr, incRr, decRr, addSpR8, jp, jpCc, jpHl, jr, jrCc, call,
      callCc, ret, retCc, reti, rst, nop, halt, stop, di, ei, illegal, h]

open GStack in
/-- So does that of an entry of the second table. -/
theorem cbTable_sameCost : ∀ p ∈ cbTable.zipIdx, ∀ q ∈ p.1.zipIdx, SameCost q.1 q.1 := by
  simp only [cbTable, cbRow00, cbRow10, cbRow20, cbRow30, cbRow40, cbRow50, cbRow60, cbRow70, cbRow80, cbRow90,
    cbRowA0, cbRowB0, cbRowC0, cbRowD0, cbRowE0, cbRowF0, List.zipIdx_cons, List.zipIdx_nil, List.forall_mem_cons,
    List.not_mem_nil, false_implies, implies_true, and_true]
  and_intros
  all_goals exact fun s s' _ => ⟨_, _, rfl, rfl, by simp [cbRot, cbBit, cbRes, cbSet]⟩

/-- The session after reset but for the SM83's flags. -/
def State.resetWithFlags (f : Sm83Flags) : State :=
  { State.reset with g := { GStack.reset with cpu := { GStack.reset.cpu with f := f } } }

/-- What an SM83 instruction charges in that session. -/
def sm83Cost (i : Instr) (f : Sm83Flags) : Nat :=
  match exec i (.resetWithFlags f) with
  | .next t => t.g.cycles
  | .fault _ => 0
  | .refused _ => 0

theorem cycles_eq_sm83Cost {i j : Instr} {s t : State} (hij : SameCost i j) (he : exec i s = .next t) :
    t.g.cycles = sm83Cost j s.g.cpu.f := by
  obtain ⟨t₁, t₂, h₁, h₂, hc⟩ := hij s (.resetWithFlags s.g.cpu.f) rfl
  rw [he] at h₁
  obtain rfl := Host.Outcome.next.inj h₁
  rw [sm83Cost, h₂, hc]

theorem decodeSm83_sameCost {op : Byte} (h : op ≠ 0xCB) (b1 b2 : Byte) :
    SameCost (decodeSm83 op b1 b2) (decodeSm83 op 0 0) :=
  getD_getD_of_forall_zipIdx (P := fun b e => b ≠ 0xCB → ∀ b1 b2, SameCost (OpRow.instr e b1 b2) (e.instr 0 0)) rfl
    sm83Table_sameCost op h b1 b2

theorem decodeCb_sameCost (cbop : Byte) : SameCost (decodeCb cbop) (decodeCb cbop) :=
  getD_getD_of_forall_zipIdx (P := fun _ i => SameCost i i) rfl cbTable_sameCost cbop

/-! ### The M6502: only the indexed modes of reads add to the cost of an opcode, and the branches (R156, R260) -/

namespace NStack

theorem pageCrossed_join_add (hi lo b : Byte) :
    pageCrossed (join hi lo) (join hi lo + zext16 b) = decide (256 ≤ lo.toNat + b.toNat) := by
  have := hi.isLt
  have := lo.isLt
  have := b.isLt
  rw [pageCrossed_add_zext16, toNat_join, decide_eq_decide]
  omega

theorem resolve_abx_crossed (n : NStack) (b1 b2 : Byte) :
    (n.resolve (.abx (join b2 b1))).crossed = decide (256 ≤ b1.toNat + n.cpu.x.toNat) := pageCrossed_join_add ..

theorem resolve_aby_crossed (n : NStack) (b1 b2 : Byte) :
    (n.resolve (.aby (join b2 b1))).crossed = decide (256 ≤ b1.toNat + n.cpu.y.toNat) := pageCrossed_join_add ..

theorem resolve_izy_crossed (n : NStack) (b1 : Byte) :
    (n.resolve (.izy b1)).crossed = decide (256 ≤ (n.ram.read b1.toNat).toNat + n.cpu.y.toNat) := by
  rw [resolve, zeroPagePointer_eq]
  exact pageCrossed_join_add ..

/-- Whether the entry `op` is a read in an indexed mode whose sum crosses a page, by its place in the matrix (R156,
R176). -/
def indexCrosses (op : Byte) (n : NStack) (b1 b2 : Byte) : Bool :=
  let row := op.toNat / 16
  let col := op.toNat % 16
  let read := decide (row ≠ 8 ∧ row ≠ 9)
  if (col = 0xD ∧ row % 2 = 1) ∨ op = 0xBC then read && (n.resolve (.abx (join b2 b1))).crossed
  else if (col = 0x9 ∧ row % 2 = 1) ∨ op = 0xBE then read && (n.resolve (.aby (join b2 b1))).crossed
  else if col = 0x1 ∧ row % 2 = 1 then read && (n.resolve (.izy b1)).crossed
  else false

end NStack

/-- The entry of the opcode `op` charges what it charges after reset with operand bytes 0, and one more for a crossed
page. -/
def OpRow.CostsAs (e : OpRow) (op : Byte) : Prop := ∀ b1 b2 s, ∃ t t',
  exec (e.instr b1 b2) s = .next t ∧ exec (e.instr 0 0) State.reset = .next t' ∧
    t.n.cycles = t'.n.cycles + b2n (NStack.indexCrosses op s.n b1 b2)

/-- Every entry but those of the branches, which stand at the head of the odd rows. -/
theorem m6502Table_costsAs : ∀ p ∈ m6502Table.zipIdx, ∀ q ∈ p.1.zipIdx,
    (BitVec.ofNat 8 (16 * p.2 + q.2)).toNat % 32 ≠ 16 → OpRow.CostsAs q.1 (BitVec.ofNat 8 (16 * p.2 + q.2)) := by
  simp only [m6502Table, m6502Row00, m6502Row10, m6502Row20, m6502Row30, m6502Row40, m6502Row50, m6502Row60,
    m6502Row70, m6502Row80, m6502Row90, m6502RowA0, m6502RowB0, m6502RowC0, m6502RowD0, m6502RowE0,
    m6502RowF0, List.zipIdx_cons, List.zipIdx_nil, List.forall_mem_cons, List.not_mem_nil, false_implies,
    implies_true, and_true, true_and, zero_add, Nat.reduceAdd, Nat.reduceMul, BitVec.toNat_ofNat,
    Nat.reducePow, Nat.reduceMod, Nat.reduceEqDiff, ne_eq, not_true_eq_false, not_false_eq_true, true_implies]
  and_intros
  all_goals exact fun b1 b2 s => ⟨_, _, rfl, rfl, rfl⟩

/-- What an M6502 instruction charges in the session after reset. -/
def m6502Cost (i : Instr) : Nat :=
  match exec i State.reset with
  | .next t => t.n.cycles
  | .fault _ => 0
  | .refused _ => 0

theorem cycles_of_not_branch {op b1 b2 : Byte} {s t : State} (hop : op.toNat % 32 ≠ 16)
    (he : exec (decodeM6502 op b1 b2) s = .next t) :
    t.n.cycles = m6502Cost (decodeM6502 op 0 0) + b2n (NStack.indexCrosses op s.n b1 b2) := by
  have hrow : OpRow.CostsAs (m6502Row op) op :=
    getD_getD_of_forall_zipIdx (P := fun b e => b.toNat % 32 ≠ 16 → OpRow.CostsAs e b) rfl m6502Table_costsAs op hop
  obtain ⟨t₁, t₂, h₁, h₂, hc⟩ := hrow b1 b2 s
  obtain rfl := Host.Outcome.next.inj (he.symm.trans h₁)
  rw [m6502Cost, decodeM6502, h₂, hc]

theorem decodeM6502_branch {op : Byte} (h : op.toNat % 32 = 16) :
    ∃ cond, ∀ b1 b2 s, exec (decodeM6502 op b1 b2) s = s.onN (NStack.branch cond b1) := by
  obtain rfl | rfl | rfl | rfl | rfl | rfl | rfl | rfl := (by decide : ∀ op : Byte, op.toNat % 32 = 16 →
    op = 0x10 ∨ op = 0x30 ∨ op = 0x50 ∨ op = 0x70 ∨ op = 0x90 ∨ op = 0xB0 ∨ op = 0xD0 ∨ op = 0xF0) op h
  all_goals exact ⟨_, fun _ _ _ => rfl⟩

theorem branch_cycles (cond : M6502Flags → Bool) (b : Byte) (n : NStack) :
    (n.branch cond b).cycles = 2 ∨ (n.branch cond b).cycles = 3 ∨ (n.branch cond b).cycles = 4 := by
  unfold NStack.branch
  dsimp only
  split_ifs <;> simp

end Sys2Proof.Machine

namespace Sys2Proof.Proofs

open Sys2Proof.Machine

/-- Settles O53: an opcode costs what it costs in the session after reset, with the same flags on the SM83, plus the
crossed page of an M6502 read; so the matrices are compared on that session. -/
theorem cycleCountsAreThoseOfTheTable : Obligations.CycleCountsAreThoseOfTheTable := by
  unfold Obligations.CycleCountsAreThoseOfTheTable
  intro m6502 sm83 taken cell
  refine ⟨fun s t op b1 b2 he => ⟨fun hb => ?_, fun hb => ?_⟩, fun s t op b1 b2 hop he => ?_, fun s t cbop b2 he => ?_⟩
  · obtain ⟨cond, hc⟩ := decodeM6502_branch (op := op) (by omega)
    rw [hc] at he
    obtain rfl := Host.Outcome.next.inj he
    exact branch_cycles ..
  · have hbase : ∀ op : Byte, op.toNat % 32 ≠ 16 → m6502Cost (decodeM6502 op 0 0) = cell m6502 op := by
      simp only [cell, m6502]
      decide +kernel
    have hop : op.toNat % 32 ≠ 16 := by omega
    rw [cycles_of_not_branch hop he, hbase op hop]
    simp only [NStack.indexCrosses, NStack.resolve_abx_crossed, NStack.resolve_aby_crossed, NStack.resolve_izy_crossed]
    rfl
  · have hbase : ∀ op : Byte, op ≠ 0xCB → ∀ z n h c, sm83Cost (decodeSm83 op 0 0) ⟨z, n, h, c⟩ =
        ((taken.lookup op.toNat).filter fun _ => if op.toNat / 8 % 4 = 0 then !z else if op.toNat / 8 % 4 = 1 then z
          else if op.toNat / 8 % 4 = 2 then !c else c).getD (cell sm83 op) := by
      simp only [cell, sm83, taken]
      decide +kernel
    rw [cycles_eq_sm83Cost (decodeSm83_sameCost hop b1 b2) he]
    exact hbase op hop ..
  · have hbase : ∀ (cbop : Byte) z n h c, sm83Cost (decodeCb cbop) ⟨z, n, h, c⟩ =
        if cbop.toNat % 8 ≠ 6 then 8 else if cbop.toNat / 64 = 1 then 12 else 16 := by decide +kernel
    exact (cycles_eq_sm83Cost (decodeCb_sameCost cbop) he).trans (hbase cbop ..)

end Sys2Proof.Proofs
end

section
/-! Proofs. The results and flags of the M6502 as numbers, and what an instruction of each shape ends in (R200, R201,
R231, R232, R241, R248 to R251). -/

open Sys2Proof.Stated

namespace Sys2Proof.Machine

/-! ### Results and flags -/

/-- `SetNZ` (R201). -/
theorem M6502Flags.setNZ_eq_nz (p : M6502Flags) (v : Byte) : p.setNZ v = nz p v := rfl

theorem M6502.loadA_eq (v : Byte) (r : M6502) : loadA v r = { r with a := v, p := nz r.p v } := by
  rw [loadA, M6502Flags.setNZ_eq_nz]

theorem M6502.loadX_eq (v : Byte) (r : M6502) : loadX v r = { r with x := v, p := nz r.p v } := by
  rw [loadX, M6502Flags.setNZ_eq_nz]

theorem M6502.loadY_eq (v : Byte) (r : M6502) : loadY v r = { r with y := v, p := nz r.p v } := by
  rw [loadY, M6502Flags.setNZ_eq_nz]

/-- `CompareCore` (R231). -/
theorem M6502Flags.compare_eq (p : M6502Flags) (reg m : Byte) :
    p.compare reg m = { p with n := (reg - m).msb, z := decide (reg = m), c := decide (m.toNat ≤ reg.toNat) } := rfl

/-- BIT copies bits 7 and 6 of its operand (R241). -/
theorem M6502Flags.bitTest_eq (p : M6502Flags) (a m : Byte) :
    p.bitTest a m = { p with
      n := decide (128 ≤ m.toNat), v := decide (64 ≤ m.toNat % 128), z := decide (a &&& m = 0) } := by
  have h7 : m.getLsbD 7 = decide (128 ≤ m.toNat) := by
    rw [getLsbD_eq_decide, decide_eq_decide]
    omega
  have h6 : m.getLsbD 6 = decide (64 ≤ m.toNat % 128) := by
    rw [getLsbD_eq_decide, decide_eq_decide]
    omega
  rw [bitTest, h7, h6]
  rfl

theorem countOp_eq (step : Byte) (p : M6502Flags) (m : Byte) : countOp step p m = (m + step, nz p (m + step)) := by
  rw [countOp, M6502Flags.setNZ_eq_nz]

/-- The rotates and shifts of both cores on numbers (R248 to R251, R471 to R478). -/
theorem rotOp_eq_rot (op : RotOp) (cin : Bool) (v : Byte) : rotOp op cin v = rot op cin v := by
  revert v
  cases op <;> cases cin <;> decide

theorem shiftFlags_rotOp (op : RotOp) (p : M6502Flags) (v : Byte) :
    shiftFlags p (rotOp op p.c v) = ((rot op p.c v).1, nzc p (rot op p.c v)) := by
  rw [rotOp_eq_rot]
  rfl

/-! ### The shapes of an instruction -/

/-- The base cost of the mode and the crossed page (R156). -/
theorem readCycles_add_eq_readCost (o : Operand) (crossed : Bool) :
    readCycles o.mode + b2n crossed = readCost o crossed := by
  cases crossed <;> cases o <;> rfl

theorem onN_readInstr (s : State) (o : Operand) {f : Byte → M6502 → M6502} {r : M6502}
    (hf : f (s.n.readOperand o).value s.n.cpu = r) (hpc : r.pc = s.n.cpu.pc) :
    s.onN (NStack.readInstr o f) =
      nEnd s (s.n.readOperand o).after r o.length (readCost o (s.n.readOperand o).crossed) := by
  simp only [State.onN, NStack.readInstr_eq, hf, hpc, readCycles_add_eq_readCost, nEnd]

theorem onN_storeInstr (s : State) (o : Operand) (v : M6502 → Byte) :
    s.onN (NStack.storeInstr o v) =
      nEnd s ((s.n.resolve o).after.write (s.n.resolve o).ea (v s.n.cpu)) s.n.cpu o.length (storeCycles o.mode) := by
  simp only [State.onN, NStack.storeInstr_eq, NStack.resolve_after, nEnd]

theorem onN_rmwInstr (s : State) (o : Operand) {f : M6502Flags → Byte → Byte × M6502Flags} {v : Byte} {p : M6502Flags}
    (hf : f s.n.cpu.p ((s.n.resolve o).after.read (s.n.resolve o).ea).1 = (v, p)) :
    s.onN (NStack.rmwInstr o f) =
      nEnd s (((s.n.resolve o).after.read (s.n.resolve o).ea).2.write (s.n.resolve o).ea v) { s.n.cpu with p := p }
        o.length (rmwCycles o.mode) := by
  rw [NStack.resolve_after] at hf ⊢
  simp only [State.onN, NStack.rmwInstr_eq, hf, nEnd]

theorem onN_impliedInstr (s : State) (cost : Nat) {f : M6502 → M6502} {r : M6502} (hf : f s.n.cpu = r)
    (hpc : r.pc = s.n.cpu.pc) : s.onN (NStack.impliedInstr cost f) = nEnd s s.n r 1 cost := by
  simp only [State.onN, NStack.impliedInstr, NStack.next, hf, hpc, nEnd]

/-- A shift or rotate of the accumulator works on the registers alone (R144). -/
theorem onN_shiftInstr_acc (s : State) {f : M6502Flags → Byte → Byte × M6502Flags} {v : Byte} {p : M6502Flags}
    (hf : f s.n.cpu.p s.n.cpu.a = (v, p)) :
    s.onN (NStack.shiftInstr f .acc) = nEnd s s.n { s.n.cpu with a := v, p := p } 1 2 :=
  onN_impliedInstr s 2 (f := fun r => { r with a := (f r.p r.a).1, p := (f r.p r.a).2 }) (by rw [hf]) rfl

end Sys2Proof.Machine

namespace Sys2Proof.Proofs

open Sys2Proof.Machine

/-- Settles O6: a load is a reading instruction, a store writes the effective address, a transfer is a load from a
register. -/
theorem m6502LoadsStoresTransfers : Obligations.M6502LoadsStoresTransfers := by
  unfold Obligations.M6502LoadsStoresTransfers
  refine ⟨fun s o d => ⟨rfl, ?_, ?_, ?_⟩, fun s o => ?_⟩
  · exact onN_readInstr s o (M6502.loadA_eq ..) rfl
  · exact onN_readInstr s o (M6502.loadX_eq ..) rfl
  · exact onN_readInstr s o (M6502.loadY_eq ..) rfl
  · intro n r e cost
    have hstore (v : M6502 → Byte) : s.onN (NStack.storeInstr o v) = cost (v r) :=
      (onN_storeInstr s o v).trans (by cases o <;> rfl)
    refine ⟨hstore M6502.a, hstore M6502.x, hstore M6502.y, ?_, ?_, ?_, ?_, ?_, ?_⟩
    · exact onN_impliedInstr s 2 (M6502.loadX_eq ..) rfl
    · exact onN_impliedInstr s 2 (M6502.loadY_eq ..) rfl
    · exact onN_impliedInstr s 2 (M6502.loadA_eq ..) rfl
    · exact onN_impliedInstr s 2 (M6502.loadA_eq ..) rfl
    · exact onN_impliedInstr s 2 (M6502.loadX_eq ..) rfl
    · exact onN_impliedInstr s 2 rfl rfl

/-- Settles O9: the logic is a load of the accumulator, a compare or a test writes flags alone, a count is a load of an
index register. -/
theorem m6502LogicCompareCount : Obligations.M6502LogicCompareCount := by
  unfold Obligations.M6502LogicCompareCount
  intro s o n r m v fin cmp
  have hcmp (reg : M6502 → Byte) :
      s.onN (NStack.readInstr o fun m r => { r with p := r.p.compare (reg r) m }) = cmp (reg r) :=
    onN_readInstr s o (by rw [M6502Flags.compare_eq]) rfl
  refine ⟨?_, ?_, ?_, hcmp M6502.a, hcmp M6502.x, hcmp M6502.y, ?_, ?_, ?_, ?_, ?_⟩
  · exact onN_readInstr s o (M6502.loadA_eq ..) rfl
  · exact onN_readInstr s o (M6502.loadA_eq ..) rfl
  · exact onN_readInstr s o (M6502.loadA_eq ..) rfl
  · exact onN_readInstr s o (by rw [M6502Flags.bitTest_eq]) rfl
  · exact onN_impliedInstr s 2 (M6502.loadX_eq ..) rfl
  · exact onN_impliedInstr s 2 (M6502.loadY_eq ..) rfl
  · exact onN_impliedInstr s 2 (M6502.loadX_eq ..) rfl
  · exact onN_impliedInstr s 2 (M6502.loadY_eq ..) rfl

/-- Settles O10: one read and one write of the effective address, or the accumulator, with the count or the shift on
numbers. -/
theorem m6502ReadModifyWrite : Obligations.M6502ReadModifyWrite := by
  unfold Obligations.M6502ReadModifyWrite
  intro s o r e m store shift acc
  have hmem {f : M6502Flags → Byte → Byte × M6502Flags} {v : Byte} {p : M6502Flags} (hf : f r.p m.1 = (v, p)) :
      s.onN (NStack.rmwInstr o f) = store v p :=
    (onN_rmwInstr s o hf).trans (by cases o <;> rfl)
  refine ⟨hmem (countOp_eq ..), hmem ?_, ?_, ?_, ?_, ?_, ?_, ?_, ?_, ?_⟩
  · rw [countOp_eq, ← BitVec.sub_eq_add_neg]
  · exact hmem (shiftFlags_rotOp .sla ..)
  · exact onN_shiftInstr_acc s (shiftFlags_rotOp .sla ..)
  · exact hmem (shiftFlags_rotOp .srl ..)
  · exact onN_shiftInstr_acc s (shiftFlags_rotOp .srl ..)
  · exact hmem (shiftFlags_rotOp .rl ..)
  · exact onN_shiftInstr_acc s (shiftFlags_rotOp .rl ..)
  · exact hmem (shiftFlags_rotOp .rr ..)
  · exact onN_shiftInstr_acc s (shiftFlags_rotOp .rr ..)

end Sys2Proof.Proofs
end

section
/-! Proofs. `AddCore` of the M6502 as addition and subtraction of numbers (R230, R233, R234). -/

open Sys2Proof.Stated

namespace Sys2Proof.Machine

theorem b2n_le_one (b : Bool) : b2n b ≤ 1 := by cases b <;> decide

namespace M6502Flags

theorem toNat_addResult (p : M6502Flags) (a m : Byte) :
    (p.addResult a m).toNat = (a.toNat + m.toNat + b2n p.c) % 256 :=
  BitVec.toNat_ofNat ..

/-- A result whose sign is neither operand's: the signed sum is outside a byte (R230). -/
theorem addResult_overflow (p : M6502Flags) (a m : Byte) :
    ((a ^^^ p.addResult a m) &&& (m ^^^ p.addResult a m)).getLsbD 7 =
      decide (a.toInt + m.toInt + b2n p.c < -128 ∨ 127 < a.toInt + m.toInt + b2n p.c) := by
  have hc := b2n_le_one p.c
  have hbit (b : Byte) : b.getLsbD 7 = decide (128 ≤ b.toNat) := BitVec.msb_eq_decide b
  rw [BitVec.getLsbD_and, BitVec.getLsbD_xor, BitVec.getLsbD_xor, hbit, hbit, hbit, toNat_addResult,
    BitVec.toInt_eq_toNat_cond, BitVec.toInt_eq_toNat_cond, Bool.eq_iff_iff]
  simp only [Bool.and_eq_true, bne_iff_ne, decide_eq_true_eq, ne_eq, decide_eq_decide]
  omega

theorem addFlags_eq (p : M6502Flags) (a m : Byte) :
    p.addFlags a m = { nz p (p.addResult a m) with
      c := decide (256 ≤ a.toNat + m.toNat + b2n p.c)
      v := decide (a.toInt + m.toInt + b2n p.c < -128 ∨ 127 < a.toInt + m.toInt + b2n p.c) } := by
  rw [← addResult_overflow]
  rfl

end M6502Flags

/-- The byte that SBC hands to `AddCore` (R234), as a number. -/
theorem toNat_xor_ff (m : Byte) : (m ^^^ 0xFF).toNat = 255 - m.toNat :=
  (congrArg BitVec.toNat BitVec.xor_allOnes).trans BitVec.toNat_not

theorem toInt_xor_ff (m : Byte) : (m ^^^ 0xFF).toInt = -1 - m.toInt := by
  rw [BitVec.toInt_eq_toNat_cond, BitVec.toInt_eq_toNat_cond, toNat_xor_ff]
  omega

namespace M6502Flags

/-- Adding the complement subtracts the operand and the borrow `1 - C` (R234). -/
theorem toNat_addResult_xor_ff (p : M6502Flags) (a m : Byte) :
    (p.addResult a (m ^^^ 0xFF)).toNat = (a.toNat + 256 - m.toNat - (1 - b2n p.c)) % 256 := by
  have hc := b2n_le_one p.c
  rw [toNat_addResult, toNat_xor_ff]
  omega

theorem addFlags_xor_ff_eq (p : M6502Flags) (a m : Byte) :
    p.addFlags a (m ^^^ 0xFF) = { nz p (p.addResult a (m ^^^ 0xFF)) with
      c := decide (m.toNat + (1 - b2n p.c) ≤ a.toNat)
      v := decide (a.toInt - m.toInt - (1 - b2n p.c) < -128 ∨ 127 < a.toInt - m.toInt - (1 - b2n p.c)) } := by
  have hc := b2n_le_one p.c
  have hcarry : 256 ≤ a.toNat + (255 - m.toNat) + b2n p.c ↔ m.toNat + (1 - b2n p.c) ≤ a.toNat := by omega
  have hsum : a.toInt + (-1 - m.toInt) + b2n p.c = a.toInt - m.toInt - (1 - b2n p.c) := by omega
  rw [addFlags_eq, toNat_xor_ff, toInt_xor_ff, hsum, decide_eq_decide.mpr hcarry]

end M6502Flags

end Sys2Proof.Machine

namespace Sys2Proof.Proofs

open Sys2Proof.Machine

/-- Settles O8: ADC is `AddCore` of the operand, SBC `AddCore` of its complement. -/
theorem m6502AddAndSubtract : Obligations.M6502AddAndSubtract := by
  unfold Obligations.M6502AddAndSubtract
  intro s o r m x i
  constructor
  · exact ⟨_, _, onN_readInstr s o rfl rfl, M6502Flags.toNat_addResult .., M6502Flags.addFlags_eq ..⟩
  · exact ⟨_, _, onN_readInstr s o rfl rfl, M6502Flags.toNat_addResult_xor_ff .., M6502Flags.addFlags_xor_ff_eq ..⟩

end Sys2Proof.Proofs
end

section
/-! Proofs. Branches, jumps and flag instructions of the M6502 (R260 to R272, R275 to R282), and the return right after
an interrupt entry on either core (R523, R529). -/

open Sys2Proof.Stated

namespace Sys2Proof.Machine

/-! ### Branches -/

/-- A branch target as a number: the address after the branch plus the signed displacement (R260). -/
theorem add_sext16_eq_ofInt (a : Word) (b : Byte) : a + sext16 b = BitVec.ofInt 16 (a.toNat + b.toInt) := by
  rw [sext16_eq, BitVec.ofInt_add, BitVec.ofInt_natCast, BitVec.ofNat_toNat, BitVec.setWidth_eq]

theorem pageCrossed_eq_true_iff (a b : Word) : pageCrossed a b = true ↔ a.toNat / 256 ≠ b.toNat / 256 := by
  simp [pageCrossed, ← BitVec.toNat_inj]

theorem onN_branch (s : State) (cond : M6502Flags → Bool) (d : Byte) {npc target : Word} (hnpc : npc = s.n.cpu.pc + 2)
    (ht : target = BitVec.ofInt 16 (npc.toNat + d.toInt)) :
    s.onN (NStack.branch cond d) =
      if cond s.n.cpu.p then
        .next { s with n := { s.n with
          cpu := { s.n.cpu with pc := target }
          cycles := if npc.toNat / 256 = target.toNat / 256 then 3 else 4 } }
      else .next { s with n := { s.n with cpu := { s.n.cpu with pc := npc }, cycles := 2 } } := by
  subst hnpc
  rw [← add_sext16_eq_ofInt] at ht
  subst ht
  unfold State.onN NStack.branch
  dsimp only
  by_cases hc : cond s.n.cpu.p = true
  · simp only [if_pos hc, pageCrossed_eq_true_iff, ne_eq, ite_not]
  · simp only [if_neg hc]

/-- Reading the pointer of an indirect jump leaves the registers (R152). -/
@[simp] theorem NStack.pagePointer_cpu (n : NStack) (ptr : Word) : (n.pagePointer ptr).2.cpu = n.cpu := by
  simp [pagePointer, readPair]

/-! ### The return from an interrupt of the M6502 -/

theorem M6502Flags.unpack_pack (p : M6502Flags) (b : Bool) : unpack (p.pack b) = p := by
  obtain ⟨n, v, d, i, z, c⟩ := p
  revert n v d i z c b
  decide

/-- Slots of the stack page are as distinct as the values of `S` (R202). -/
theorem slot_ne {s t : Byte} (h : s ≠ t) : 0x100 + s.toNat ≠ 0x100 + t.toNat :=
  fun he => h (BitVec.eq_of_toNat_eq (Nat.add_left_cancel he))

namespace NStack

/-- The three bytes that an interrupt entry pushes, read back from their slots (R274, R520, R521). -/
theorem enterInterrupt_slots {n : NStack} (hn : n.Inv) (ret : Word) (b : Bool) {vector : Word}
    (hl : 0x8000 ≤ vector.toNat) (hh : vector.toNat < 0xFFFF) :
    (n.enterInterrupt ret b vector).ram.read (0x100 + n.cpu.s.toNat) = hiByte ret ∧
    (n.enterInterrupt ret b vector).ram.read (0x100 + (n.cpu.s - 1).toNat) = loByte ret ∧
    (n.enterInterrupt ret b vector).ram.read (0x100 + (n.cpu.s - 2).toNat) = n.cpu.p.pack b := by
  have hwf := hn.ram.1
  have h01 : n.cpu.s ≠ n.cpu.s - 1 := by bv_omega
  have h02 : n.cpu.s ≠ n.cpu.s - 2 := by bv_omega
  have h12 : n.cpu.s - 1 ≠ n.cpu.s - 2 := by bv_omega
  rw [enterInterrupt_eq n ret b hl hh]
  refine ⟨?_, ?_, ?_⟩
  · rw [Memory.read_write_ne _ _ (slot_ne h02), Memory.read_write_ne _ _ (slot_ne h01), Memory.read_write_self hwf]
  · rw [Memory.read_write_ne _ _ (slot_ne h12), Memory.read_write_self (Memory.write_wf hwf _ _)]
  · exact Memory.read_write_self (Memory.write_wf (Memory.write_wf hwf _ _) _ _) _ _

/-- RTI undoes the entry but for `PC`, which is the address that was pushed (R273, R523). -/
theorem returnFromInterrupt_enterInterrupt_cpu {n : NStack} (hn : n.Inv) (ret : Word) (b : Bool) {vector : Word}
    (hl : 0x8000 ≤ vector.toNat) (hh : vector.toNat < 0xFFFF) :
    (n.enterInterrupt ret b vector).returnFromInterrupt.cpu = { n.cpu with pc := ret } := by
  obtain ⟨hhi, hlo, hp⟩ := enterInterrupt_slots hn ret b hl hh
  have hcpu := congrArg NStack.cpu (enterInterrupt_eq n ret b hl hh)
  dsimp only at hcpu
  have h1 : n.cpu.s - 3 + 1 = n.cpu.s - 2 := by bv_omega
  have h2 : n.cpu.s - 3 + 2 = n.cpu.s - 1 := by bv_omega
  have h3 : n.cpu.s - 3 + 3 = n.cpu.s := by bv_omega
  rw [returnFromInterrupt_eq]
  simp only [hcpu, h1, h2, h3, hhi, hlo, hp, M6502Flags.unpack_pack, join_hiByte_loByte]

end NStack

/-! ### The stack of the SM83, and the return from its interrupts -/

namespace GStack

/-- Taking an interrupt off the pending ones (R528) is nothing the invariant speaks of but the delay. -/
theorem Inv.acknowledge {g : GStack} (h : g.Inv) : ({ g with
    irq := { g.irq with ifReg := g.irq.ifReg &&& ~~~(1#5 <<< lowestBit g.irq.pending) }
    cpu := { g.cpu with ime := false, imeDelay := 0, halted := false, stopped := false } } : GStack).Inv :=
  { h with imeDelay := Nat.zero_le 2 }

variable {g : GStack} {c1 c2 : GCell}

/-- `Pop16` from open storage is two bytes of it, and changes `SP` alone (R350). -/
theorem pop16_of_cellOf (hlo : g.cellOf .cpu g.cpu.sp = some c2) (hhi : g.cellOf .cpu (g.cpu.sp + 1) = some c1) :
    g.pop16 = (join (g.peek c1) (g.peek c2), { g with cpu := { g.cpu with sp := g.cpu.sp + 2 } }) := by
  simp only [pop16, read_eq, readAs_of_cellOf hlo, readAs_of_cellOf hhi]

/-- `Push16` to open storage puts two bytes of it (R350). -/
theorem push16_of_cellOf (h1 : g.cellOf .cpu (g.cpu.sp - 1) = some c1) (h2 : g.cellOf .cpu (g.cpu.sp - 2) = some c2)
    (v : Word) :
    g.push16 v = { (g.poke c1 (hiByte v)).poke c2 (loByte v) with cpu := { g.cpu with sp := g.cpu.sp - 2 } } := by
  have hcpu : ((g.write (g.cpu.sp - 1) (hiByte v)).write (g.cpu.sp - 2) (loByte v)).cpu = g.cpu := by simp
  rw [push16, hcpu, write_of_cellOf h1, write_of_cellOf ((g.cellOf_poke ..).trans h2)]

/-- What `Push16` stored, `Pop16` gives back, whatever became of the other registers in between (R350). -/
theorem pop16_push16 (hg : g.Inv) (hne : c1 ≠ c2) (h1 : g.cellOf .cpu (g.cpu.sp - 1) = some c1)
    (h2 : g.cellOf .cpu (g.cpu.sp - 2) = some c2) (v : Word) {r : Sm83} (hr : r.sp = g.cpu.sp - 2) (k : Nat) :
    ({ g.push16 v with cpu := r, cycles := k } : GStack).pop16 =
      (v, { g.push16 v with cpu := { r with sp := g.cpu.sp }, cycles := k }) := by
  have hcell (a : Word) : (g.push16 v).cellOf .cpu a = g.cellOf .cpu a := by
    rw [push16_of_cellOf h1 h2]
    exact (cellOf_poke ..).trans (cellOf_poke ..)
  have hhi : (g.push16 v).peek c1 = hiByte v := by
    rw [push16_of_cellOf h1 h2]
    exact (peek_poke_ne _ _ hne).trans (peek_poke_self hg ..)
  have hlo : (g.push16 v).peek c2 = loByte v := by
    rw [push16_of_cellOf h1 h2]
    exact peek_poke_self (hg.poke h1 _) ..
  have hs1 : r.sp + 1 = g.cpu.sp - 1 := by rw [hr]; bv_omega
  have hs2 : r.sp + 2 = g.cpu.sp := by rw [hr]; bv_omega
  rw [pop16_of_cellOf (g := { g.push16 v with cpu := r, cycles := k }) (c1 := c1) (c2 := c2)
    ((hcell _).trans (by rw [hr, h2])) ((hcell _).trans (by rw [hs1, h1]))]
  refine Prod.ext ?_ ?_
  · exact (congrArg₂ join hhi hlo).trans (join_hiByte_loByte v)
  · simp only [hs2]

/-- RETI undoes an interrupt entry, and sets `IME` at once (R440, R528, R529). -/
theorem reti_serviceInterrupt_cpu (hg : g.Inv) (hne : c1 ≠ c2) (h1 : g.cellOf .cpu (g.cpu.sp - 1) = some c1)
    (h2 : g.cellOf .cpu (g.cpu.sp - 2) = some c2) :
    (reti g.serviceInterrupt).cpu =
      { g.cpu with ime := true, imeDelay := 0, halted := false, stopped := false } := by
  have hsp : (g.serviceInterrupt.start 1 16).cpu.sp = g.cpu.sp - 2 := congrArg Sm83.sp (serviceInterrupt_cpu g)
  have hpop : (g.serviceInterrupt.start 1 16).pop16 = _ := pop16_push16 hg.acknowledge hne h1 h2 g.cpu.pc hsp 16
  rw [reti, instr_eq, returnFromInterrupt, hpop]
  simp [start, serviceInterrupt_cpu]

end GStack

end Sys2Proof.Machine

namespace Sys2Proof.Proofs

open Sys2Proof.Machine

/-- Settles O46: the pushed bytes stand in distinct bytes of storage, so each is pulled or popped as it was pushed. -/
theorem returnUndoesEntry : Obligations.ReturnUndoesEntry := by
  unfold Obligations.ReturnUndoesEntry
  refine ⟨fun s ret b vector hn hl hh => ?_, fun s v c1 c2 hg hne h1 h2 => ?_⟩
  · have hrti (u : State) : exec .rti u = u.onN fun n => { n.returnFromInterrupt with cycles := 6 } := rfl
    have hcpu := NStack.returnFromInterrupt_enterInterrupt_cpu hn ret b (vector := vector) (by omega) hh
    refine ⟨_, hrti _, ?_, rfl⟩
    dsimp only
    exact hcpu
  · have hpop := GStack.pop16_push16 hg hne h1 h2 v (congrArg Sm83.sp (s.g.push16_cpu v)) (s.g.push16 v).cycles
    have hreti (u : State) : exec .reti u = u.onG GStack.reti := rfl
    refine ⟨congrArg Prod.fst hpop, (congrArg (GStack.cpu ∘ Prod.snd) hpop).trans ?_, ?_⟩
    · simp
    · exact ⟨_, hreti _, GStack.reti_serviceInterrupt_cpu hg hne h1 h2⟩

/-- Settles O11: each of the eight is `Branch` with its condition. -/
theorem m6502Branches : Obligations.M6502Branches := by
  unfold Obligations.M6502Branches
  simp only [List.forall_mem_cons, List.not_mem_nil, false_implies, implies_true, and_true]
  and_intros
  all_goals exact fun s d => onN_branch s _ d rfl rfl

/-- Settles O12: JSR and RTS are one push or pull of a word in `ram`, the flag instructions work on the registers
alone. -/
theorem m6502JumpsAndFlags : Obligations.M6502JumpsAndFlags := by
  unfold Obligations.M6502JumpsAndFlags
  intro s a n r ret lo hi
  have hflag {p : M6502Flags} {f : M6502 → M6502} (hf : f r = { r with p := p }) :
      s.onN (NStack.impliedInstr 2 f) = nEnd s n { r with p := p } 1 2 := onN_impliedInstr s 2 hf rfl
  refine ⟨rfl, ?_, ?_, ?_, hflag rfl, hflag rfl, hflag rfl, hflag rfl, hflag rfl, hflag rfl, hflag rfl, hflag rfl⟩
  · change execJmp (.ind a) s = _
    simp only [execJmp, State.onN, NStack.jump, NStack.pagePointer_cpu]
    rfl
  · change execJsr a s = _
    simp only [execJsr, State.onN, NStack.jump, NStack.pushWord_eq]
    rfl
  · change execRts s = _
    simp only [execRts, State.onN, NStack.jump, NStack.pullWord_eq]
    rfl

end Sys2Proof.Proofs
end

section
/-! Proofs. The undocumented opcodes of the M6502 and the illegal ones of the SM83 (R300, R447, R505). -/

namespace Sys2Proof

theorem m6502Row_of_mem_undocumentedOpcodes {op : Byte} (h : op ∈ undocumentedOpcodes) : m6502Row op = OpRow.ill op :=
  List.map_inj_left.1 m6502Row_undocumented op h

/-- The table has ILL at the undocumented opcodes only: an entry's instruction is well formed, and ILL is so with one of
these. -/
theorem mem_undocumentedOpcodes_iff {op b1 b2 : Byte} :
    op ∈ undocumentedOpcodes ↔ decodeM6502 op b1 b2 = .ill op := by
  constructor
  · intro h
    rw [decodeM6502, m6502Row_of_mem_undocumentedOpcodes h, OpRow.ill]
  · intro h
    have hwf : WellFormed (decodeM6502 op b1 b2) = true := (m6502Row_encodes op).wf b1 b2
    rw [h] at hwf
    exact List.contains_iff_mem.1 hwf

namespace Machine

/-- A 1-byte entry of the SM83's table whose instruction raises the fault of its opcode: nothing but the core's fault
state and the cycle count changes (R447, R505). -/
theorem sm83_illegal_of_entry {op : Byte} {i : Instr} (hrow : sm83Row op = OpRow.g1 i)
    (hexec : ∀ s, exec i s = s.onG (GStack.illegal op)) :
    (opRow .gStack op).len = 1 ∧ (∀ b1 b2, decodeSm83 op b1 b2 = i) ∧
      ∀ s : State, exec i s = .next { s with g := { s.g with
        cpu := { s.g.cpu with
          faulted := true
          faultInfo := some { cause := .illegalOpcode op, pc := s.g.cpu.pc } }
        cycles := 0 } } :=
  ⟨congrArg OpRow.len hrow, fun b1 b2 => congrArg (fun e : OpRow => e.instr b1 b2) hrow, hexec⟩

end Machine

end Sys2Proof

namespace Sys2Proof.Proofs

open Machine

/-- Settles O4: the undocumented opcodes are the entries ILL of the table, and either core's illegal instructions raise
the fault and do nothing more. -/
theorem illegalOpcodesFault : Obligations.IllegalOpcodesFault := by
  unfold Obligations.IllegalOpcodesFault
  refine ⟨⟨rfl, by decide, fun _ _ _ => mem_undocumentedOpcodes_iff, fun op h => ?_, fun _ _ => rfl⟩, ?_⟩
  · exact congrArg OpRow.len (m6502Row_of_mem_undocumentedOpcodes h)
  · simp only [List.forall_mem_cons, List.not_mem_nil, false_implies, implies_true, and_true]
    refine ⟨?_, ?_, ?_, ?_, ?_, ?_, ?_, ?_, ?_, ?_, ?_⟩
    all_goals exact sm83_illegal_of_entry rfl fun _ => rfl

end Sys2Proof.Proofs
end

section
/-! Proofs. The 8-bit loads of the SM83 (R310 to R330), and what an SM83 instruction ends in. -/

open Sys2Proof.Stated

namespace Sys2Proof.Machine

/-! ### The shape of an instruction, and its access through an `r8` field -/

/-- An SM83 instruction ends in what its Operation makes of the stack it starts from (R310). -/
theorem onG_instr (s : State) (len cost : Nat) {op : GStack → GStack} {g : GStack} (h : op (gBegin s len cost) = g) :
    s.onG (GStack.instr len cost op) = gEnd s g := by
  subst h
  rw [State.onG, GStack.instr_eq]
  rfl

theorem Sm83.reg8_of_ne_mHL (r : Sm83) {src : R8} (h : src ≠ .mHL) : r.reg8 src = some (reg r src) := by
  cases src
  case mHL => contradiction
  all_goals rfl

theorem Sm83.setReg8_eq_putReg (r : Sm83) (v : Byte) (dst : R8) : r.setReg8 v dst = putReg r v dst := by
  cases dst <;> rfl

/-- `PC` is none of the registers that an `r8` field names. -/
theorem reg_gBegin_cpu (s : State) (len cost : Nat) (src : R8) : reg (gBegin s len cost).cpu src = reg s.g.cpu src := by
  cases src <;> rfl

namespace GStack

theorem get8_of_ne_mHL (g : GStack) {src : R8} (h : src ≠ .mHL) : g.get8 src = (reg g.cpu src, g) := by
  rw [get8, Sm83.reg8_of_ne_mHL _ h]

theorem set8_of_ne_mHL (g : GStack) {dst : R8} (h : dst ≠ .mHL) (v : Byte) :
    g.set8 dst v = { g with cpu := putReg g.cpu v dst } := by
  rw [← Sm83.setReg8_eq_putReg]
  cases dst
  case mHL => contradiction
  all_goals rfl

theorem loadA_eq (g : GStack) (a : Word) :
    g.loadA a = { (g.read a).2 with cpu := { g.cpu with a := (g.read a).1 } } := by
  rw [loadA, set8_of_ne_mHL _ (by decide), read_cpu]
  rfl

/-- A write leaves the core as it stands. -/
theorem write_with_cpu (g : GStack) (a : Word) (v : Byte) : { g.write a v with cpu := g.cpu } = g.write a v := by
  conv_lhs => rw [← write_cpu g a v]

end GStack

/-! ### The loads by the fields of their opcodes -/

section

variable (s : State) (d b2 : Byte) {dst src : R8}

theorem exec_ld_r_r (hd : dst ≠ .mHL) (hs : src ≠ .mHL) :
    exec (decodeSm83 (0b01#2 ++ dst.field ++ src.field) d b2) s = s.onG (GStack.ldRR dst src) := by
  cases dst
  case mHL => contradiction
  all_goals
    cases src
    case mHL => contradiction
    all_goals rfl

theorem exec_ld_r_d8 (hd : dst ≠ .mHL) :
    exec (decodeSm83 (0b00#2 ++ dst.field ++ 0b110#3) d b2) s = s.onG (GStack.ldRD8 dst d) := by
  cases dst
  case mHL => contradiction
  all_goals rfl

theorem exec_ld_r_mHL (hd : dst ≠ .mHL) :
    exec (decodeSm83 (0b01#2 ++ dst.field ++ 0b110#3) d b2) s = s.onG (GStack.ldRMem dst) := by
  cases dst
  case mHL => contradiction
  all_goals rfl

theorem exec_ld_mHL_r (hs : src ≠ .mHL) :
    exec (decodeSm83 (0b01110#5 ++ src.field) d b2) s = s.onG (GStack.ldMemR src) := by
  cases src
  case mHL => contradiction
  all_goals rfl

end

/-! ### The forms of a load or store of `A` -/

section

variable (s : State) {a : Word} {step : Sm83 → Sm83}

theorem onG_ldAAddr (len cost : Nat) {addr : GStack → Word} (ha : addr (gBegin s len cost) = a) :
    s.onG (GStack.ldAAddr len cost addr) =
      gEnd s { ((gBegin s len cost).read a).2 with
        cpu := { (gBegin s len cost).cpu with a := ((gBegin s len cost).read a).1 } } :=
  onG_instr s len cost (by rw [ha, GStack.loadA_eq])

theorem onG_ldAddrA (len cost : Nat) {addr : GStack → Word} (ha : addr (gBegin s len cost) = a) :
    s.onG (GStack.ldAddrA len cost addr) =
      gEnd s { (gBegin s len cost).write a s.g.cpu.a with cpu := (gBegin s len cost).cpu } :=
  onG_instr s len cost (by rw [ha, GStack.write_with_cpu]; rfl)

/-- A load through an `r16mem` field: whatever else the core holds, `HL` is stepped as it stood before (R317, R318,
R328, R330). -/
theorem onG_ldAMem {m : R16Mem} (ha : (gBegin s 1 8).memAddr m = a)
    (hstep : ∀ g : GStack, g.cpu.hl = s.g.cpu.hl → g.memStep m = { g with cpu := step g.cpu }) :
    s.onG (GStack.ldAMem m) =
      gEnd s { ((gBegin s 1 8).read a).2 with
        cpu := step { (gBegin s 1 8).cpu with a := ((gBegin s 1 8).read a).1 } } :=
  onG_instr s 1 8 (by rw [ha, GStack.loadA_eq]; exact hstep _ rfl)

/-- A store through an `r16mem` field (R319, R320, R327, R329). -/
theorem onG_ldMemA {m : R16Mem} (ha : (gBegin s 1 8).memAddr m = a)
    (hstep : ∀ g : GStack, g.cpu.hl = s.g.cpu.hl → g.memStep m = { g with cpu := step g.cpu }) :
    s.onG (GStack.ldMemA m) =
      gEnd s { (gBegin s 1 8).write a s.g.cpu.a with cpu := step (gBegin s 1 8).cpu } := by
  refine onG_instr s 1 8 ?_
  rw [ha, hstep _ (by rw [GStack.write_cpu]; rfl), GStack.write_cpu]
  rfl

end

/-- An address moved by a signed number. -/
theorem ofInt_toNat_add (a : Word) (k : Int) : BitVec.ofInt 16 (a.toNat + k) = a + BitVec.ofInt 16 k := by
  rw [BitVec.ofInt_add, BitVec.ofInt_natCast, BitVec.ofNat_toNat, BitVec.setWidth_eq]

namespace GStack

/-- What `HL+` leaves of a stack whose `HL` is `a` (R166). -/
theorem memStep_hlInc {g : GStack} {a : Word} (h : g.cpu.hl = a) :
    g.memStep .hlInc = { g with cpu := putPair g.cpu (BitVec.ofInt 16 (a.toNat + 1)) .hl } := by
  rw [ofInt_toNat_add, ← h]
  rfl

theorem memStep_hlDec {g : GStack} {a : Word} (h : g.cpu.hl = a) :
    g.memStep .hlDec = { g with cpu := putPair g.cpu (BitVec.ofInt 16 (a.toNat + -1)) .hl } := by
  have hneg : BitVec.ofInt 16 (-1) = -(1 : Word) := rfl
  rw [ofInt_toNat_add, hneg, ← BitVec.sub_eq_add_neg, ← h]
  rfl

end GStack

end Sys2Proof.Machine

namespace Sys2Proof.Proofs

open Sys2Proof.Machine

/-- Settles O15: the fields name a load of the five forms, whose Operation is one `Get8` or access at the old `HL` and
one `Set8`. -/
theorem sm83RegisterLoads : Obligations.Sm83RegisterLoads := by
  unfold Obligations.Sm83RegisterLoads
  intro s dst src d b2 old
  refine ⟨fun hd hs => ?_, fun hd => ?_, fun hd => ?_, fun hs => ?_, ?_⟩
  · rw [exec_ld_r_r s d b2 hd hs]
    exact onG_instr s 1 4 (by rw [GStack.get8_of_ne_mHL _ hs, GStack.set8_of_ne_mHL _ hd, reg_gBegin_cpu])
  · rw [exec_ld_r_d8 s d b2 hd]
    exact onG_instr s 2 8 (GStack.set8_of_ne_mHL _ hd d)
  · rw [exec_ld_r_mHL s d b2 hd]
    exact onG_instr s 1 8 (by rw [GStack.set8_of_ne_mHL _ hd, GStack.read_cpu]; rfl)
  · rw [exec_ld_mHL_r s d b2 hs]
    exact onG_instr s 1 8 (by rw [GStack.get8_of_ne_mHL _ hs, reg_gBegin_cpu]; rfl)
  · exact onG_instr s 2 12 rfl

/-- Settles O16: each is a load or a store of `A` at the address of its form, and the last four step `HL` after it. -/
theorem sm83AccumulatorLoads : Obligations.Sm83AccumulatorLoads := by
  unfold Obligations.Sm83AccumulatorLoads
  intro s d w r loadThen storeThen still move high
  have hstill (g : GStack) (_ : g.cpu.hl = r.hl) : g = { g with cpu := still g.cpu } := rfl
  have hinc (g : GStack) (h : g.cpu.hl = r.hl) : g.memStep .hlInc = { g with cpu := move 1 g.cpu } :=
    GStack.memStep_hlInc h
  have hdec (g : GStack) (h : g.cpu.hl = r.hl) : g.memStep .hlDec = { g with cpu := move (-1) g.cpu } :=
    GStack.memStep_hlDec h
  have hhigh (b : Byte) : GStack.highPage b = high b := GStack.highPage_eq b
  refine ⟨?_, ?_, ?_, ?_, ?_, ?_, ?_, ?_, ?_, ?_, ?_, ?_, ?_, ?_⟩
  · exact onG_ldAMem s rfl hstill
  · exact onG_ldAMem s rfl hstill
  · exact onG_ldMemA s rfl hstill
  · exact onG_ldMemA s rfl hstill
  · exact onG_ldAAddr s 3 16 rfl
  · exact onG_ldAddrA s 3 16 rfl
  · exact onG_ldAAddr s 2 12 (hhigh d)
  · exact onG_ldAddrA s 2 12 (hhigh d)
  · exact onG_ldAAddr s 1 8 (hhigh r.c)
  · exact onG_ldAddrA s 1 8 (hhigh r.c)
  · exact onG_ldMemA s rfl hinc
  · exact onG_ldAMem s rfl hinc
  · exact onG_ldMemA s rfl hdec
  · exact onG_ldAMem s rfl hdec

end Sys2Proof.Proofs
end

section
/-! Proofs. The 16-bit loads of the SM83, PUSH and POP (R350 to R356). -/

open Sys2Proof.Stated

namespace Sys2Proof.Machine

/-! ### The registers as words, and what `SP` and a displacement make -/

theorem Sm83.set16_eq_putPair (r : Sm83) (v : Word) (rr : R16) : r.set16 v rr = putPair r v rr := by
  cases rr <;> rfl

theorem fByte_eq_toByte : ∀ f : Sm83Flags, fByte f = f.toByte := by
  rintro ⟨z, n, h, c⟩
  revert z n h c
  decide

/-- `SP` plus a displacement as numbers: the two carries are those out of bits 3 and 7 (R354). -/
theorem addSp_eq (sp : Word) (b : Byte) :
    addSp sp b = (BitVec.ofInt 16 (sp.toNat + b.toInt),
      { z := false, n := false, h := decide (16 ≤ sp.toNat % 16 + b.toNat % 16)
        c := decide (256 ≤ sp.toNat % 256 + b.toNat) }) := by
  rw [addSp, add_sext16_eq_ofInt]
  rfl

/-! ### The stack by its two accesses -/

namespace GStack

theorem push16_eq_pushed (g : GStack) (v : Word) : g.push16 v = pushed g v := by
  rw [push16, write_cpu, write_cpu]
  rfl

/-- `Pop16` by its two reads, the low byte first; of the core it changes `SP` alone (R350). -/
theorem pop16_eq (g : GStack) :
    g.pop16 = (join (popHi g).1 (popLo g).1,
      { (popHi g).2 with cpu := { g.cpu with sp := g.cpu.sp + 2 } }) := by
  rw [pop16, read_cpu, read_cpu]
  rfl

end GStack

/-! ### The pair forms by the fields of their opcodes -/

section

variable (s : State) (b1 b2 : Byte)

theorem exec_ld_rr_d16 (rr : R16) :
    exec (decodeSm83 (0b00#2 ++ rr.field ++ 0b0001#4) b1 b2) s = s.onG (GStack.ldRrD16 rr (join b2 b1)) := by
  cases rr <;> rfl

theorem exec_push_rr (rr : R16Stk) :
    exec (decodeSm83 (0b11#2 ++ rr.field ++ 0b0101#4) b1 b2) s = s.onG (GStack.push rr) := by
  cases rr <;> rfl

theorem exec_pop_rr (rr : R16Stk) :
    exec (decodeSm83 (0b11#2 ++ rr.field ++ 0b0001#4) b1 b2) s = s.onG (GStack.pop rr) := by
  cases rr <;> rfl

end

end Sys2Proof.Machine

namespace Sys2Proof.Proofs

open Sys2Proof.Machine

/-- Settles O17: the field names the pair, and its Operation is one `Set16`, two writes, `Push16` or `Pop16`. -/
theorem sm83WordLoadsAndStack : Obligations.Sm83WordLoadsAndStack := by
  unfold Obligations.Sm83WordLoadsAndStack
  refine ⟨fun s rr lo hi w => ⟨?_, ?_, ?_, ?_⟩, fun s rr b1 b2 => ⟨?_, ?_⟩⟩
  · rw [exec_ld_rr_d16]
    exact onG_instr s 3 12 (by rw [GStack.mapCpu, Sm83.set16_eq_putPair])
  · exact onG_instr s 3 20 rfl
  · exact onG_instr s 1 8 rfl
  · exact onG_instr s 2 12 (by rw [GStack.mapCpu, addSp_eq]; rfl)
  · rw [exec_push_rr]
    refine onG_instr s 1 16 ?_
    rw [GStack.push16_eq_pushed]
    cases rr
    case af => rw [fByte_eq_toByte]; rfl
    all_goals rfl
  · rw [exec_pop_rr]
    refine onG_instr s 1 12 ?_
    rw [GStack.pop16_eq]
    cases rr
    all_goals
      simp only [GStack.mapCpu, Sm83.set16Stk, Sm83.setBc, Sm83.setDe, Sm83.setHl, Sm83.setAf, hiByte_join,
        loByte_join]
      rfl

end Sys2Proof.Proofs
end

section
/-! Proofs. The accumulator operations of the SM83 as arithmetic on numbers (R370 to R378). -/

open Sys2Proof.Stated

namespace Sys2Proof.Machine

/-! ### Results and flags -/

theorem ofNat_beq_zero (k : Nat) : ((BitVec.ofNat 8 k : Byte) == 0) = decide (k % 256 = 0) :=
  decide_eq_decide.mpr BitVec.toNat_eq

/-- A difference narrowed to a byte, kept at or above zero by a multiple of 256. -/
theorem ofInt_natCast_sub (m : Nat) {k : Nat} (q : Nat) (h : k ≤ 256 * q) :
    BitVec.ofInt 8 ((m : Int) - k) = BitVec.ofNat 8 (m + 256 * q - k) := by
  apply BitVec.eq_of_toNat_eq
  rw [BitVec.toNat_ofInt, BitVec.toNat_ofNat]
  omega

/-- `Add8` (R370). -/
theorem add8_eq (a m : Byte) (cin : Bool) :
    add8 a m cin = (BitVec.ofNat 8 (a.toNat + m.toNat + b2n cin),
      { z := decide ((a.toNat + m.toNat + b2n cin) % 256 = 0), n := false
        h := decide (16 ≤ a.toNat % 16 + m.toNat % 16 + b2n cin)
        c := decide (256 ≤ a.toNat + m.toNat + b2n cin) }) := by
  rw [← ofNat_beq_zero]
  rfl

/-- `Sub8` (R370). -/
theorem sub8_eq (a m : Byte) (cin : Bool) :
    sub8 a m cin = (BitVec.ofNat 8 (a.toNat + 512 - m.toNat - b2n cin),
      { z := decide ((a.toNat + 512 - m.toNat - b2n cin) % 256 = 0), n := true
        h := decide (a.toNat % 16 < m.toNat % 16 + b2n cin)
        c := decide (a.toNat < m.toNat + b2n cin) }) := by
  have hcin := b2n_le_one cin
  have hres : BitVec.ofInt 8 ((a.toNat : Int) - m.toNat - b2n cin) =
      BitVec.ofNat 8 (a.toNat + 512 - m.toNat - b2n cin) := by
    rw [Int.sub_sub, ← Int.natCast_add, ofInt_natCast_sub _ 2 (by omega), Nat.sub_sub]
  have hborrow : (a.toNat : Int) - m.toNat - b2n cin < 0 ↔ a.toNat < m.toNat + b2n cin := by omega
  rw [← ofNat_beq_zero, ← decide_eq_decide.mpr hborrow, ← hres]
  rfl

theorem aluOp_eq_alu (op : AluOp) (f : Sm83Flags) (a m : Byte) : aluOp op f a m = alu op f.c a m := by
  cases op
  case add => exact add8_eq a m false
  case adc => exact add8_eq a m f.c
  case sub => exact sub8_eq a m false
  case sbc => exact sub8_eq a m f.c
  case and => rfl
  case xor =>
    have hz : ((a ^^^ m) == 0) = decide (a = m) := decide_eq_decide.mpr BitVec.xor_eq_zero_iff
    simp only [aluOp, logic8, alu, hz]
  case or =>
    have hz : ((a ||| m) == 0) = decide (a = 0 ∧ m = 0) := decide_eq_decide.mpr BitVec.or_eq_zero_iff
    simp only [aluOp, logic8, alu, hz]
  case cp => exact congrArg (fun res => (a, res.2)) (sub8_eq a m false)

/-- An accumulator operation writes `A` and the flags alone; `r` is the core whose `A` and `F` it works on. -/
theorem GStack.aluA_eq (op : AluOp) {g : GStack} {r : Sm83} (hf : g.cpu.f = r.f) (ha : g.cpu.a = r.a) (m : Byte) :
    g.aluA op m = { g with cpu := { g.cpu with a := (alu op r.f.c r.a m).1, f := (alu op r.f.c r.a m).2 } } := by
  rw [aluA, mapCpu, aluOp_eq_alu, hf, ha]

/-! ### The operations by the fields of their opcodes -/

section

variable (s : State) (d b2 : Byte) (op : AluOp)

theorem exec_alu_r {src : R8} (hs : src ≠ .mHL) :
    exec (decodeSm83 (0b10#2 ++ op.field ++ src.field) d b2) s =
      s.onG (GStack.instr 1 4 fun g => (g.get8 src).2.aluA op (g.get8 src).1) := by
  cases src
  case mHL => contradiction
  all_goals cases op <;> rfl

theorem exec_alu_mHL :
    exec (decodeSm83 (0b10#2 ++ op.field ++ 0b110#3) d b2) s =
      s.onG (GStack.instr 1 8 fun g => (g.read g.cpu.hl).2.aluA op (g.read g.cpu.hl).1) := by
  cases op <;> rfl

theorem exec_alu_d8 :
    exec (decodeSm83 (0b11#2 ++ op.field ++ 0b110#3) d b2) s = s.onG (GStack.aluD8 op d) := by
  cases op <;> rfl

end

end Sys2Proof.Machine

namespace Sys2Proof.Proofs

open Sys2Proof.Machine

/-- Settles O18: the fields name the operation and its operand, a register, one read at `HL` or the immediate. -/
theorem sm83AccumulatorOperations : Obligations.Sm83AccumulatorOperations := by
  unfold Obligations.Sm83AccumulatorOperations
  intro s op src d b2 r fin
  refine ⟨fun hs => ?_, ?_, ?_⟩
  · rw [exec_alu_r s d b2 op hs]
    exact onG_instr s 1 4 (by rw [GStack.get8_of_ne_mHL _ hs, reg_gBegin_cpu]; exact GStack.aluA_eq op rfl rfl _)
  · rw [exec_alu_mHL]
    have hcpu := (gBegin s 1 8).read_cpu r.hl
    exact onG_instr s 1 8 (GStack.aluA_eq op (congrArg Sm83.f hcpu) (congrArg Sm83.a hcpu) _)
  · rw [exec_alu_d8]
    exact onG_instr s 2 8 (GStack.aluA_eq op rfl rfl d)

end Sys2Proof.Proofs
end

section
/-! Proofs. DAA as arithmetic on numbers, and the decimal sum and difference it leaves (R383). -/

open Sys2Proof.Stated

namespace Sys2Proof.Machine

/-! ### The two corrections -/

/-- Whether DAA corrects the high digit, which is also the carry it leaves (R383). -/
def daaHigh (f : Sm83Flags) (acc : Byte) : Bool := f.c || (!f.n && decide (0x99 < acc.toNat))

/-- Whether DAA corrects the low digit. -/
def daaLow (f : Sm83Flags) (acc : Byte) : Bool := f.h || (!f.n && decide (9 < acc.toNat % 16))

/-- What the two corrections come to, added after an addition and taken away after a subtraction. -/
def daaFix (high low : Bool) : Nat := (if high then 0x60 else 0) + (if low then 0x06 else 0)

/-- The byte that DAA leaves in `A`. -/
def daaByte (f : Sm83Flags) (acc : Byte) : Byte :=
  if f.n then BitVec.ofNat 8 (acc.toNat + 256 - daaFix (daaHigh f acc) (daaLow f acc))
  else BitVec.ofNat 8 (acc.toNat + daaFix (daaHigh f acc) (daaLow f acc))

theorem daaFix_le (high low : Bool) : daaFix high low ≤ 256 := by
  cases high <;> cases low <;> decide

theorem add_daaFix (a : Nat) (high low : Bool) :
    ((a + daaFix high low : Nat) : Int) =
      if low then (if high then (a : Int) + 0x60 else a) + 0x06 else if high then (a : Int) + 0x60 else a := by
  unfold daaFix
  split_ifs <;> omega

theorem sub_daaFix (a : Nat) (high low : Bool) :
    (a : Int) - (daaFix high low : Nat) =
      if low then (if high then (a : Int) - 0x60 else a) - 0x06 else if high then (a : Int) - 0x60 else a := by
  unfold daaFix
  split_ifs <;> omega

/-- The rule's test of the low digit after the first correction may as well look before it: 0x60 leaves that digit
alone. -/
theorem daa_of_add {f : Sm83Flags} (hn : f.n = false) (acc : Byte) :
    daa f acc = (daaByte f acc, { f with z := decide (daaByte f acc = 0), h := false, c := daaHigh f acc }) := by
  have hhigh : (f.c || decide (0x99 < (acc.toNat : Int))) = daaHigh f acc := by
    simp [daaHigh, hn]
  have hlow (b : Bool) :
      (f.h || decide (9 < (if b then (acc.toNat : Int) + 0x60 else acc.toNat) % 16)) = daaLow f acc := by
    have hdigit : (9 < (if b then (acc.toNat : Int) + 0x60 else acc.toNat) % 16) ↔ 9 < acc.toNat % 16 := by
      split <;> omega
    simp [daaLow, hn, hdigit]
  have hbyte : daaByte f acc = BitVec.ofInt 8 (acc.toNat + daaFix (daaHigh f acc) (daaLow f acc) : Nat) := by
    rw [BitVec.ofInt_natCast, daaByte, hn]
    rfl
  rw [hbyte, add_daaFix]
  simp only [daa, hn, Bool.false_eq_true, if_false, hhigh, hlow]
  rfl

theorem daa_of_sub {f : Sm83Flags} (hn : f.n = true) (acc : Byte) :
    daa f acc = (daaByte f acc, { f with z := decide (daaByte f acc = 0), h := false, c := daaHigh f acc }) := by
  have hhigh : f.c = daaHigh f acc := by simp [daaHigh, hn]
  have hlow : f.h = daaLow f acc := by simp [daaLow, hn]
  have hbyte : daaByte f acc = BitVec.ofInt 8 ((acc.toNat : Int) - daaFix (daaHigh f acc) (daaLow f acc)) := by
    rw [ofInt_natCast_sub _ 1 (daaFix_le ..), daaByte, hn]
    rfl
  rw [hbyte, sub_daaFix]
  simp only [daa, hn, if_true, ← hhigh, ← hlow]
  rfl

theorem daa_eq (f : Sm83Flags) (acc : Byte) :
    daa f acc = (daaByte f acc, { f with z := decide (daaByte f acc = 0), h := false, c := daaHigh f acc }) :=
  f.n.eq_false_or_eq_true.elim (daa_of_sub · acc) (daa_of_add · acc)

/-! ### Numbers of two decimal digits -/

/-- A number below 100 as two decimal digits. -/
def bcd (k : Nat) : Byte := BitVec.ofNat 8 (16 * (k / 10) + k % 10)

theorem toNat_bcd {k : Nat} (h : k < 100) : (bcd k).toNat = 16 * (k / 10) + k % 10 := by
  rw [bcd, BitVec.toNat_ofNat]
  omega

section

variable {x y : Nat} (hx : x < 100) (hy : y < 100) (cin : Bool)

include hx hy

/-- DAA corrects the high digit exactly when the decimal sum exceeds 99. -/
theorem daaHigh_add8_bcd :
    daaHigh (add8 (bcd x) (bcd y) cin).2 (add8 (bcd x) (bcd y) cin).1 = decide (100 ≤ x + y + b2n cin) := by
  have hcin := b2n_le_one cin
  have htens := Nat.lt_or_ge (x / 10 + y / 10) 10
  have hmod := Nat.mod_le (16 * (x / 10) + x % 10 + (16 * (y / 10) + y % 10) + b2n cin) 256
  simp only [daaHigh, add8_eq, toNat_bcd hx, toNat_bcd hy, BitVec.toNat_ofNat, Bool.not_false, Bool.true_and,
    ← Bool.decide_or, decide_eq_decide]
  omega

/-- DAA corrects the low digit exactly when the digits add up to more than 9. -/
theorem daaLow_add8_bcd :
    daaLow (add8 (bcd x) (bcd y) cin).2 (add8 (bcd x) (bcd y) cin).1 =
      decide (10 ≤ x % 10 + y % 10 + b2n cin) := by
  have hcin := b2n_le_one cin
  simp only [daaLow, add8_eq, toNat_bcd hx, toNat_bcd hy, BitVec.toNat_ofNat, Bool.not_false, Bool.true_and,
    ← Bool.decide_or, decide_eq_decide]
  omega

theorem daaByte_add8_bcd :
    daaByte (add8 (bcd x) (bcd y) cin).2 (add8 (bcd x) (bcd y) cin).1 = bcd ((x + y + b2n cin) % 100) := by
  have hcin := b2n_le_one cin
  apply BitVec.eq_of_toNat_eq
  rw [toNat_bcd (by omega), daaByte, daaHigh_add8_bcd hx hy, daaLow_add8_bcd hx hy]
  simp only [add8_eq, toNat_bcd hx, toNat_bcd hy, BitVec.toNat_ofNat, daaFix, decide_eq_true_eq,
    Bool.false_eq_true, if_false]
  split_ifs <;> omega

/-- DAA takes the high digit back exactly when the decimal difference is negative. -/
theorem daaHigh_sub8_bcd :
    daaHigh (sub8 (bcd x) (bcd y) cin).2 (sub8 (bcd x) (bcd y) cin).1 = decide (x < y + b2n cin) := by
  have hcin := b2n_le_one cin
  simp only [daaHigh, sub8_eq, toNat_bcd hx, toNat_bcd hy, Bool.not_true, Bool.false_and, Bool.or_false,
    decide_eq_decide]
  omega

theorem daaLow_sub8_bcd :
    daaLow (sub8 (bcd x) (bcd y) cin).2 (sub8 (bcd x) (bcd y) cin).1 = decide (x % 10 < y % 10 + b2n cin) := by
  have hcin := b2n_le_one cin
  simp only [daaLow, sub8_eq, toNat_bcd hx, toNat_bcd hy, Bool.not_true, Bool.false_and, Bool.or_false,
    decide_eq_decide]
  omega

theorem daaByte_sub8_bcd :
    daaByte (sub8 (bcd x) (bcd y) cin).2 (sub8 (bcd x) (bcd y) cin).1 = bcd ((x + 100 - y - b2n cin) % 100) := by
  have hcin := b2n_le_one cin
  apply BitVec.eq_of_toNat_eq
  rw [toNat_bcd (by omega), daaByte, daaHigh_sub8_bcd hx hy, daaLow_sub8_bcd hx hy]
  simp only [sub8_eq, toNat_bcd hx, toNat_bcd hy, BitVec.toNat_ofNat, daaFix, decide_eq_true_eq, if_true]
  split_ifs <;> omega

end

end Sys2Proof.Machine

namespace Sys2Proof.Proofs

open Sys2Proof.Machine

/-- Settles O20: the two corrections are the decimal carries or borrows of the two digits. -/
theorem decimalAdjustGivesDecimalResult : Obligations.DecimalAdjustGivesDecimalResult := by
  unfold Obligations.DecimalAdjustGivesDecimalResult
  intro _ x y cin hx hy i sum dif
  rw [daa_eq sum.2, daa_eq dif.2]
  exact ⟨daaByte_add8_bcd hx hy cin, daaHigh_add8_bcd hx hy cin, daaByte_sub8_bcd hx hy cin,
    daaHigh_sub8_bcd hx hy cin⟩

end Sys2Proof.Proofs
end

section
/-! Proofs. INC, DEC, DAA, CPL, SCF, CCF and the rotates of `A` (R379 to R390). -/

open Sys2Proof.Stated

namespace Sys2Proof.Machine

/-! ### Results and flags -/

/-- INC of a byte wraps to zero from 0xFF alone (R379). -/
theorem inc8_eq (f : Sm83Flags) (v : Byte) :
    inc8 f v = (v + 1, { f with z := decide (v = 0xFF), n := false, h := decide (v.toNat % 16 = 15) }) := by
  have hz : (v + 1 == 0) = decide (v = 0xFF) := decide_eq_decide.mpr eq_neg_iff_add_eq_zero.symm
  rw [inc8, hz]
  rfl

theorem dec8_eq (f : Sm83Flags) (v : Byte) :
    dec8 f v = (v - 1, { f with z := decide (v = 1), n := true, h := decide (v.toNat % 16 = 0) }) := by
  have hz : (v - 1 == 0) = decide (v = 1) := decide_eq_decide.mpr sub_eq_zero
  rw [dec8, hz]
  rfl

/-- CPL's complement as a number (R384). -/
theorem xor_ff_eq_ofNat (a : Byte) : a ^^^ 0xFF = BitVec.ofNat 8 (255 - a.toNat) := by
  rw [← toNat_xor_ff, BitVec.ofNat_toNat, BitVec.setWidth_eq]

/-! ### The counts by the fields of their opcodes -/

section

variable (s : State) (b1 b2 : Byte) {dst : R8}

theorem exec_inc_r (hd : dst ≠ .mHL) :
    exec (decodeSm83 (0b00#2 ++ dst.field ++ 0b100#3) b1 b2) s =
      s.onG (GStack.instr 1 4 (GStack.modify8 dst inc8)) := by
  cases dst
  case mHL => contradiction
  all_goals rfl

theorem exec_dec_r (hd : dst ≠ .mHL) :
    exec (decodeSm83 (0b00#2 ++ dst.field ++ 0b101#3) b1 b2) s =
      s.onG (GStack.instr 1 4 (GStack.modify8 dst dec8)) := by
  cases dst
  case mHL => contradiction
  all_goals rfl

end

/-! ### One read and one write of the operand -/

namespace GStack

variable (g : GStack) {op : Sm83Flags → Byte → Byte × Sm83Flags} {v : Byte} {f : Sm83Flags}

theorem modify8_of_ne_mHL {dst : R8} (hd : dst ≠ .mHL) (hop : op g.cpu.f (reg g.cpu dst) = (v, f)) :
    modify8 dst op g = { g with cpu := { putReg g.cpu v dst with f := f } } := by
  simp only [modify8, get8_of_ne_mHL _ hd, hop, set8_of_ne_mHL _ hd, mapCpu]

theorem modify8_mHL {a : Word} (ha : g.cpu.hl = a) (hop : op g.cpu.f (g.read a).1 = (v, f)) :
    modify8 .mHL op g = { (g.read a).2.write a v with cpu := { (g.read a).2.cpu with f := f } } := by
  have hget : g.get8 .mHL = g.read a := congrArg g.read ha
  have hset : (g.read a).2.set8 .mHL v = (g.read a).2.write a v := by
    rw [← ha, set8, read_cpu]
  rw [modify8, hget, hop, hset, mapCpu, write_cpu]

end GStack

/-! ### An instruction on `A` and the flags alone -/

theorem onG_onRegs (s : State) (res : Sm83 → Byte × Sm83Flags) {v : Byte} {f : Sm83Flags}
    (h : res (gBegin s 1 4).cpu = (v, f)) :
    s.onG (GStack.onRegs fun c => { c with a := (res c).1, f := (res c).2 }) =
      gEnd s { gBegin s 1 4 with cpu := { (gBegin s 1 4).cpu with a := v, f := f } } :=
  onG_instr s 1 4 (by rw [GStack.mapCpu, h])

end Sys2Proof.Machine

namespace Sys2Proof.Proofs

open Sys2Proof.Machine

/-- Settles O19: a count is one read and one write of its operand, the rest works on `A` and the flags alone. -/
theorem sm83CountAndAdjust : Obligations.Sm83CountAndAdjust := by
  unfold Obligations.Sm83CountAndAdjust
  refine ⟨fun s dst b1 b2 => ⟨fun hd => ⟨?_, ?_⟩, ?_, ?_⟩, fun s => ?_⟩
  · rw [exec_inc_r s b1 b2 hd]
    exact onG_instr s 1 4 (GStack.modify8_of_ne_mHL _ hd (by rw [reg_gBegin_cpu]; exact inc8_eq ..))
  · rw [exec_dec_r s b1 b2 hd]
    exact onG_instr s 1 4 (GStack.modify8_of_ne_mHL _ hd (by rw [reg_gBegin_cpu]; exact dec8_eq ..))
  · exact onG_instr s 1 12 (GStack.modify8_mHL _ rfl (inc8_eq ..))
  · exact onG_instr s 1 12 (GStack.modify8_mHL _ rfl (dec8_eq ..))
  · intro r f fin high low fix adj turn
    have hturn (op : RotOp) : s.onG (GStack.rotA op) = turn op :=
      onG_onRegs s (fun c => ((rotOp op c.f.c c.a).1, rotAFlags (rotOp op c.f.c c.a).2)) (by rw [rotOp_eq_rot]; rfl)
    refine ⟨?_, ?_, ?_, ?_, hturn .rlc, hturn .rrc, hturn .rl, hturn .rr⟩
    · exact onG_onRegs s (fun c => daa c.f c.a) (daa_eq f r.a)
    · exact onG_onRegs s (fun c => (c.a ^^^ 0xFF, { c.f with n := true, h := true })) (by rw [xor_ff_eq_ofNat]; rfl)
    · exact onG_instr s 1 4 rfl
    · exact onG_instr s 1 4 rfl

end Sys2Proof.Proofs
end

section
/-! Proofs. The 16-bit arithmetic of the SM83 (R410 to R413). -/

open Sys2Proof.Stated

namespace Sys2Proof.Machine

/-! ### Words as numbers -/

theorem Sm83.get16_eq_pair (r : Sm83) (rr : R16) : r.get16 rr = pair r rr := by
  cases rr <;> rfl

/-- `PC` is none of the registers that an `r16` field names. -/
theorem pair_gBegin_cpu (s : State) (len cost : Nat) (rr : R16) :
    pair (gBegin s len cost).cpu rr = pair s.g.cpu rr := by
  cases rr <;> rfl

theorem ofNat_toNat_add (a : Word) (k : Nat) : BitVec.ofNat 16 (a.toNat + k) = a + BitVec.ofNat 16 k := by
  rw [BitVec.ofNat_add, BitVec.ofNat_toNat, BitVec.setWidth_eq]

/-- ADD HL,rr on numbers: the carries are those out of bits 11 and 15 (R410). -/
theorem addHl_eq (f : Sm83Flags) (x v : Word) :
    addHl f x v = (BitVec.ofNat 16 (x.toNat + v.toNat),
      { f with n := false, h := decide (4096 ≤ x.toNat % 4096 + v.toNat % 4096)
               c := decide (65536 ≤ x.toNat + v.toNat) }) := by
  rw [ofNat_toNat_add, BitVec.ofNat_toNat, BitVec.setWidth_eq]
  rfl

/-! ### The forms by the fields of their opcodes -/

section

variable (s : State) (b1 b2 : Byte) (rr : R16)

theorem exec_add_HL_rr :
    exec (decodeSm83 (0b00#2 ++ rr.field ++ 0b1001#4) b1 b2) s = s.onG (GStack.addHlRr rr) := by
  cases rr <;> rfl

theorem exec_inc_rr :
    exec (decodeSm83 (0b00#2 ++ rr.field ++ 0b0011#4) b1 b2) s = s.onG (GStack.incRr rr) := by
  cases rr <;> rfl

theorem exec_dec_rr :
    exec (decodeSm83 (0b00#2 ++ rr.field ++ 0b1011#4) b1 b2) s = s.onG (GStack.decRr rr) := by
  cases rr <;> rfl

end

end Sys2Proof.Machine

namespace Sys2Proof.Proofs

open Sys2Proof.Machine

/-- Settles O21: the field names the pair, and its Operation works on the registers alone. -/
theorem sm83WordArithmetic : Obligations.Sm83WordArithmetic := by
  unfold Obligations.Sm83WordArithmetic
  intro s rr b1 b2 r x v
  refine ⟨?_, ?_, ?_, ?_⟩
  · rw [exec_add_HL_rr]
    exact onG_instr s 1 8 (by rw [GStack.mapCpu, Sm83.get16_eq_pair, pair_gBegin_cpu, addHl_eq]; rfl)
  · rw [exec_inc_rr]
    exact onG_instr s 1 8 (by
      rw [GStack.mapCpu, Sm83.get16_eq_pair, pair_gBegin_cpu, Sm83.set16_eq_putPair, ofNat_toNat_add]
      rfl)
  · rw [exec_dec_rr]
    exact onG_instr s 1 8 (by
      rw [GStack.mapCpu, Sm83.get16_eq_pair, pair_gBegin_cpu, Sm83.set16_eq_putPair, ofNat_toNat_add,
        BitVec.sub_eq_add_neg]
      rfl)
  · exact onG_instr s 2 16 (by rw [GStack.mapCpu, addSp_eq]; rfl)

end Sys2Proof.Proofs
end

section
/-! Proofs. Jumps, calls, returns and restarts of the SM83 (R430 to R441). -/

open Sys2Proof.Stated

namespace Sys2Proof.Machine

/-! ### What a transfer makes of the stack it starts from -/

theorem condHolds_eq_cond (f : Sm83Flags) (cc : Cond) : condHolds cc f = cond f cc := by
  cases cc <;> rfl

namespace GStack

theorem callTo_eq_pushed (g : GStack) (target : Word) :
    g.callTo target = { pushed g g.cpu.pc with cpu := { (pushed g g.cpu.pc).cpu with pc := target } } := by
  rw [callTo, push16_eq_pushed]
  rfl

theorem popPc_eq_returned (g : GStack) : g.popPc = returned g := by
  rw [popPc, pop16_eq]
  rfl

/-- RETI is RET that sets `IME` as well, whatever delay was running (R440, R529). -/
theorem returnFromInterrupt_eq_returned (g : GStack) :
    g.returnFromInterrupt = { returned g with cpu := { (returned g).cpu with ime := true, imeDelay := 0 } } := by
  rw [returnFromInterrupt, pop16_eq]
  rfl

end GStack

/-- A conditional transfer does its Operation at the taken cost, or only advances `PC` (R310, R430). -/
theorem onG_ifCond (s : State) (len cost : Nat) (cc : Cond) {taken : Nat} {op : GStack → GStack} {g : GStack}
    (h : op (gBegin s len taken) = g) :
    s.onG (GStack.instr len cost (GStack.ifCond cc taken op)) =
      if cond s.g.cpu.f cc then gEnd s g else gEnd s (gBegin s len cost) := by
  refine (onG_instr s len cost rfl).trans ?_
  have hf : condHolds cc (gBegin s len cost).cpu.f = cond s.g.cpu.f cc := condHolds_eq_cond ..
  rw [GStack.ifCond, hf, ← h]
  exact apply_ite (gEnd s) ..

/-! ### The transfers by the fields of their opcodes -/

section

variable (s : State) (lo hi : Byte) (cc : Cond)

theorem exec_jp_cc :
    exec (decodeSm83 (0b110#3 ++ cc.field ++ 0b010#3) lo hi) s = s.onG (GStack.jpCc cc (join hi lo)) := by
  cases cc <;> rfl

theorem exec_jr_cc : exec (decodeSm83 (0b001#3 ++ cc.field ++ 0b000#3) lo hi) s = s.onG (GStack.jrCc cc lo) := by
  cases cc <;> rfl

theorem exec_call_cc :
    exec (decodeSm83 (0b110#3 ++ cc.field ++ 0b100#3) lo hi) s = s.onG (GStack.callCc cc (join hi lo)) := by
  cases cc <;> rfl

theorem exec_ret_cc : exec (decodeSm83 (0b110#3 ++ cc.field ++ 0b000#3) lo hi) s = s.onG (GStack.retCc cc) := by
  cases cc <;> rfl

theorem exec_rst (t : BitVec 3) :
    exec (decodeSm83 (0b11#2 ++ t ++ 0b111#3) lo hi) s = s.onG (GStack.rst (BitVec.ofNat 16 (8 * t.toNat))) := by
  obtain ⟨k, rfl⟩ : ∃ k : Fin 8, t = BitVec.ofFin k := ⟨t.toFin, rfl⟩
  fin_cases k
  all_goals rfl

end

end Sys2Proof.Machine

namespace Sys2Proof.Proofs

open Sys2Proof.Machine

/-- Settles O22: each is a jump, `Push16` before a jump or `Pop16` into `PC`, with or without the condition its field
names. -/
theorem sm83ControlTransfers : Obligations.Sm83ControlTransfers := by
  unfold Obligations.Sm83ControlTransfers
  intro s cc t lo hi r a ifTaken go call rel
  have hrel : r.pc + 2 + sext16 lo = rel := add_sext16_eq_ofInt ..
  refine ⟨?_, ?_, ?_, ?_, ?_, ?_, ?_, ?_, ?_, ?_, ?_⟩
  · exact onG_instr s 3 16 rfl
  · rw [exec_jp_cc]
    exact onG_ifCond s 3 12 cc rfl
  · exact onG_instr s 1 4 rfl
  · rw [← hrel]
    exact onG_instr s 2 12 rfl
  · rw [exec_jr_cc, ← hrel]
    exact onG_ifCond s 2 8 cc rfl
  · exact onG_instr s 3 24 (GStack.callTo_eq_pushed ..)
  · rw [exec_call_cc]
    exact onG_ifCond s 3 12 cc (GStack.callTo_eq_pushed ..)
  · exact onG_instr s 1 16 (GStack.popPc_eq_returned _)
  · rw [exec_ret_cc]
    exact onG_ifCond s 1 8 cc (GStack.popPc_eq_returned _)
  · exact onG_instr s 1 16 (GStack.returnFromInterrupt_eq_returned _)
  · rw [exec_rst]
    exact onG_instr s 1 16 (GStack.callTo_eq_pushed ..)

end Sys2Proof.Proofs
end

section
/-! Proofs. NOP, HALT, STOP, DI and EI, and the entry that PREFIX CB runs (R442 to R448). -/

open Sys2Proof.Stated

namespace Sys2Proof.Machine

/-- Each entry of the second table means what the fields of its second byte say (R164, R470). -/
theorem cbTable_exec : ∀ p ∈ cbTable.zipIdx, ∀ q ∈ p.1.zipIdx,
    ∀ s : State, exec q.1 s = s.onG (GStack.cbEntry (BitVec.ofNat 8 (16 * p.2 + q.2))) := by
  simp only [cbTable, cbRow00, cbRow10, cbRow20, cbRow30, cbRow40, cbRow50, cbRow60, cbRow70, cbRow80, cbRow90,
    cbRowA0, cbRowB0, cbRowC0, cbRowD0, cbRowE0, cbRowF0, List.zipIdx_cons, List.zipIdx_nil, List.forall_mem_cons,
    List.not_mem_nil, false_implies, implies_true, and_true]
  and_intros
  all_goals exact fun s => rfl

theorem exec_decodeCb (cbop : Byte) (s : State) : exec (decodeCb cbop) s = s.onG (GStack.cbEntry cbop) :=
  getD_getD_of_forall_zipIdx (P := fun b i => ∀ s : State, exec i s = s.onG (GStack.cbEntry b)) rfl cbTable_exec cbop s

end Sys2Proof.Machine

namespace Sys2Proof.Proofs

open Sys2Proof.Machine

/-- Settles O23: the five work on the registers alone; PREFIX CB means by the fields of its second byte what the entry
at that byte means. -/
theorem sm83CpuControl : Obligations.Sm83CpuControl := by
  unfold Obligations.Sm83CpuControl
  intro s pad cbop b2 g g2
  refine ⟨?_, ?_, ?_, ?_, ?_, ?_⟩
  · exact onG_instr s 1 4 rfl
  · exact onG_instr s 1 4 rfl
  · exact onG_instr s 2 4 rfl
  · exact onG_instr s 1 4 rfl
  · exact onG_instr s 1 4 rfl
  · exact (exec_decodeCb cbop s).symm

end Sys2Proof.Proofs
end

section
/-! Proofs. The second table of the SM83 by the fields of its second byte (R470 to R481). -/

open Sys2Proof.Stated

namespace Sys2Proof.Machine

/-! ### The fields of the second byte, and its bits as numbers -/

theorem cbField_x_append : ∀ (x : BitVec 2) (y z : BitVec 3), (x ++ y ++ z : Byte).extractLsb' 6 2 = x := by decide

theorem cbField_y_append : ∀ (x : BitVec 2) (y z : BitVec 3), (x ++ y ++ z : Byte).extractLsb' 3 3 = y := by decide

theorem cbField_z_append : ∀ (x : BitVec 2) (y z : BitVec 3), (x ++ y ++ z : Byte).extractLsb' 0 3 = z := by decide

theorem R8.ofField_field (z : R8) : R8.ofField z.field = z := by cases z <;> rfl

theorem RotOp.ofField_field (op : RotOp) : RotOp.ofField op.field = op := by cases op <;> rfl

/-- RES takes the weight of a set bit away (R480). -/
theorem and_not_bit_eq : ∀ (y : BitVec 3) (v : Byte), v &&& ~~~(1#8 <<< y.toNat) =
    if decide (v.toNat / 2 ^ y.toNat % 2 = 1) then BitVec.ofNat 8 (v.toNat - 2 ^ y.toNat) else v := by
  decide +kernel

/-- SET adds the weight of a clear bit (R481). -/
theorem or_bit_eq : ∀ (y : BitVec 3) (v : Byte), v ||| (1#8 <<< y.toNat) =
    if decide (v.toNat / 2 ^ y.toNat % 2 = 1) then v else BitVec.ofNat 8 (v.toNat + 2 ^ y.toNat) := by
  decide +kernel

/-! ### The access to the operand -/

namespace GStack

variable (s : State) (cost : Nat) (z : R8)

theorem get8_gBegin : (gBegin s 2 cost).get8 z =
    if decide (z = .mHL) then (gBegin s 2 cost).read (hl s.g.cpu) else (reg s.g.cpu z, gBegin s 2 cost) := by
  by_cases hz : z = .mHL
  · rw [if_pos (decide_eq_true hz), hz]
    rfl
  · rw [if_neg (by simpa using hz), get8_of_ne_mHL _ hz, reg_gBegin_cpu]

/-- The operand is put back where it was read. -/
theorem set8_eq_ite {g : GStack} (hg : g.cpu.hl = hl s.g.cpu) (v : Byte) : g.set8 z v =
    if decide (z = .mHL) then g.write (hl s.g.cpu) v else { g with cpu := putReg g.cpu v z } := by
  by_cases hz : z = .mHL
  · rw [if_pos (decide_eq_true hz), hz, ← hg]
    rfl
  · rw [if_neg (by simpa using hz), set8_of_ne_mHL _ hz]

theorem get8_gBegin_hl : ((gBegin s 2 cost).get8 z).2.cpu.hl = hl s.g.cpu := by
  rw [get8_cpu]
  rfl

end GStack

/-! ### The entries -/

section

variable (s : State) (y : BitVec 3) (z : R8) (b2 : Byte)

open GStack

/-- An entry of the second table by its fields (R164, R470). -/
theorem exec_cb_fields (x : BitVec 2) : exec (decodeSm83 0xCB (x ++ y ++ z.field) b2) s = s.onG
    (if x = 0 then cbRot (RotOp.ofField y) z else if x = 1 then cbBit y.toNat z
      else if x = 2 then cbRes y.toNat z else cbSet y.toNat z) := by
  refine (exec_decodeCb _ s).trans ?_
  rw [cbEntry, cbField_x_append, cbField_y_append, cbField_z_append, R8.ofField_field]

theorem exec_rot_r (op : RotOp) :
    exec (decodeSm83 0xCB (0b00#2 ++ op.field ++ z.field) b2) s = s.onG (cbRot op z) := by
  rw [exec_cb_fields, RotOp.ofField_field]
  rfl

theorem exec_bit_r : exec (decodeSm83 0xCB (0b01#2 ++ y ++ z.field) b2) s = s.onG (cbBit y.toNat z) :=
  exec_cb_fields ..

theorem exec_res_r : exec (decodeSm83 0xCB (0b10#2 ++ y ++ z.field) b2) s = s.onG (cbRes y.toNat z) :=
  exec_cb_fields ..

theorem exec_set_r : exec (decodeSm83 0xCB (0b11#2 ++ y ++ z.field) b2) s = s.onG (cbSet y.toNat z) :=
  exec_cb_fields ..

end

end Sys2Proof.Machine

namespace Sys2Proof.Proofs

open Sys2Proof.Machine

/-- Settles O24: the fields name the operation and its operand, which is read once and, but for BIT, put back. -/
theorem sm83SecondTable : Obligations.Sm83SecondTable := by
  unfold Obligations.Sm83SecondTable
  intro s op y z b2 r mem v put cost w t set entry bit
  have hcost (a b : Nat) : (if z = .mHL then a else b) = if mem then a else b := by
    simp only [mem, decide_eq_true_eq]
  have hget (k : Nat) : (gBegin s 2 k).get8 z = v k := GStack.get8_gBegin s k z
  have hput (k : Nat) (x : Byte) : (v k).2.set8 z x = put (v k).2 x :=
    GStack.set8_eq_ite s z (by rw [← hget]; exact GStack.get8_gBegin_hl s k z) x
  have hf (k : Nat) : (v k).2.cpu.f = r.f := by rw [← hget, GStack.get8_cpu]; rfl
  refine ⟨(exec_rot_r ..).trans ?_, (exec_bit_r ..).trans ?_, (exec_res_r ..).trans ?_, (exec_set_r ..).trans ?_⟩
  · rw [GStack.cbRot, hcost]
    refine onG_instr s 2 cost ?_
    simp only [GStack.modify8, hget, hput, rotOp_eq_rot]
    rfl
  · rw [GStack.cbBit, hcost]
    refine onG_instr s 2 _ ?_
    simp only [hget, GStack.mapCpu, bitFlags, hf, getLsbD_eq_decide]
    rfl
  · rw [GStack.cbRes, hcost]
    refine onG_instr s 2 cost ?_
    rw [hget, hput, and_not_bit_eq]
  · rw [GStack.cbSet, hcost]
    refine onG_instr s 2 cost ?_
    rw [hget, hput, or_bit_eq]

end Sys2Proof.Proofs
end

section
/-! Proofs. The interrupt entries of both cores at the head of a `Step` (R515 to R528). -/

open Sys2Proof.Stated

namespace Sys2Proof.Machine

namespace NStack

/-- An interrupt entry in the form of the statements, the vector by its offset from 0x8000 (R520, R521). -/
theorem enterInterrupt_eq_nEntered (n : NStack) (ret : Word) (b : Bool) {vector : Word} {off : Nat}
    (hv : vector.toNat = 0x8000 + off) (ho : off < 0x7FFF) :
    n.enterInterrupt ret b vector = nEntered n ret b off := by
  rw [enterInterrupt_eq n ret b (by omega) (by omega), hv, Proofs.pack_eq_flagsByte, Nat.add_sub_cancel_left,
    Nat.add_assoc, Nat.add_sub_cancel_left]
  rfl

/-- A latched NMI is serviced before anything but a fault (R502, R520). -/
theorem stepHead_nmi {n : NStack} (hf : n.cpu.faulted = false) (hn : n.cpu.nmiPending = true) :
    n.stepHead = .done n.serviceNmi := by
  simp [stepHead, hf, hn]

/-- An unmasked IRQ is serviced where no NMI is latched (R502, R521). -/
theorem stepHead_irq {n : NStack} (hf : n.cpu.faulted = false) (hn : n.cpu.nmiPending = false)
    (hl : n.cpu.irqLine = true) (hi : n.cpu.p.i = false) : n.stepHead = .done n.serviceIrq := by
  simp [stepHead, hf, hn, hl, hi]

end NStack

namespace GStack

/-- The index of the lowest set bit is the one below which no bit is set (R526). -/
theorem lowestBit_eq {p : BitVec 5} {k : Nat} (hk : p.getLsbD k = true) (hlow : ∀ j < k, p.getLsbD j = false) :
    lowestBit p = k := by
  have hp : p ≠ 0 := by
    rintro rfl
    simp at hk
  obtain ⟨-, hset, hclear⟩ := lowestBit_spec hp
  obtain hlt | heq | hgt := lt_trichotomy (lowestBit p) k
  · exact absurd hset (by simp [hlow _ hlt])
  · exact heq
  · exact absurd hk (by simp [hclear _ hgt])

/-- The requests but one, the mask as a number (R528). -/
theorem not_requestBit_eq : ∀ k < 5, ~~~(1#5 <<< k) = BitVec.ofNat 5 (31 - 2 ^ k) := by decide

theorem vectorOf_eq : ∀ k < 5, vectorOf k = BitVec.ofNat 16 (0x40 + 8 * k) := by decide

/-- An interrupt is serviced before anything but a fault (R502, R528). -/
theorem stepHead_interrupt {g : GStack} (hf : g.cpu.faulted = false) (hi : g.cpu.ime = true)
    (hp : g.irq.pending ≠ 0) : g.stepHead = .done g.serviceInterrupt := by
  have hirq : (g.cpu.ime && g.irq.pending != 0) = true := by rw [hi, bne_iff_ne.mpr hp, Bool.and_self]
  rw [stepHead, if_neg (by simp [hf]), if_pos hirq]

end GStack

end Sys2Proof.Machine

namespace Sys2Proof.Proofs

open Sys2Proof.Machine

/-- Settles O45: each entry is the arm of `Step` before all others, and one push of the registers it displaces. -/
theorem interruptEntry : Obligations.InterruptEntry := by
  unfold Obligations.InterruptEntry
  refine ⟨fun s hst hf => ⟨fun hn => ?_, fun hn hl hi => ?_⟩, fun s k hst hf hime hk hbit hlow => ?_⟩
  · rw [cpuStep_of_nHead hst (NStack.stepHead_nmi hf hn), NStack.serviceNmi,
      NStack.enterInterrupt_eq_nEntered _ _ _ (off := 0x7FFA) rfl (by decide)]
    rfl
  · rw [cpuStep_of_nHead hst (NStack.stepHead_irq hf hn hl hi), NStack.serviceIrq,
      NStack.enterInterrupt_eq_nEntered _ _ _ (off := 0x7FFE) rfl (by decide)]
    rfl
  · have hlowest : GStack.lowestBit s.g.irq.pending = k := GStack.lowestBit_eq hbit hlow
    have hp : s.g.irq.pending ≠ 0 := fun h0 => by
      rw [← GIrq.pending, h0] at hbit
      simp at hbit
    rw [cpuStep_of_gHead hst (GStack.stepHead_interrupt hf hime hp), GStack.serviceInterrupt, hlowest,
      GStack.not_requestBit_eq k hk, GStack.vectorOf_eq k hk, GStack.push16_eq_pushed]
    rfl

end Sys2Proof.Proofs
end

section
/-! Proofs. Which steps fault (R505, R506). -/

open Sys2Proof.Stated

namespace Sys2Proof.Machine

namespace NStack

/-- A DMA unit leaves the core alone (R87). -/
@[simp] theorem dmaUnit_cpu (n : NStack) : n.dmaUnit.cpu = n.cpu := by simp [dmaUnit]

/-- It reads the bus and writes the picture unit's port alone. -/
theorem dmaUnit_ram (n : NStack) : n.dmaUnit.ram = n.ram := n.read_ram _

theorem dmaUnit_prgRam (n : NStack) : n.dmaUnit.prgRam = n.prgRam := n.read_prgRam _

/-- In the range of the invariant the DMA arm is one unit (R87, R506). -/
theorem dmaArm_of_lt {n : NStack} (h : n.dma.index < Config.mDmaUnits) : n.dmaArm = n.dmaUnit :=
  if_neg (Nat.not_le.mpr h)

/-- An interrupt entry does not touch the fault state (R520, R521). -/
theorem enterInterrupt_faulted (n : NStack) (ret : Word) (b : Bool) (vector : Word) :
    (n.enterInterrupt ret b vector).cpu.faulted = n.cpu.faulted :=
  (Reaches.enterInterrupt n ret b vector).cpu_same.faulted

/-- The fetch leaves the core alone (R200). -/
@[simp] theorem fetch_cpu (n : NStack) : n.fetch.2.cpu = n.cpu := by
  have hif (m : NStack) (c : Bool) (a : Word) : (m.fetchIf c a).2.cpu = m.cpu := by
    unfold fetchIf
    split
    · exact read_cpu ..
    · rfl
  simp [fetch, hif]

/-- No arm before (d) faults (R502, R506). -/
theorem faulted_of_stepHead_done {n m : NStack} (hn : n.Inv) (h : n.stepHead = .done m) :
    m.cpu.faulted = n.cpu.faulted := by
  unfold stepHead at h
  split_ifs at h with _ _ _ ha
  all_goals obtain rfl := Head.done.inj h
  · rfl
  · exact enterInterrupt_faulted ..
  · exact enterInterrupt_faulted ..
  · rw [dmaArm_of_lt (hn.dmaActive ha), dmaUnit_cpu]

/-- An instruction that faults is ILL (R300). -/
theorem Meaning.fault {i : Instr} {f : NStack → NStack} (hf : Meaning i f) {n : NStack} (hn : n.cpu.faulted = false)
    (h : (f n).cpu.faulted = true) : ∃ op, f n = n.raiseFault (.illegalOpcode op) := by
  cases hf with
  | runs hr => exact absurd h (by rw [(hr.reaches n).cpu_same.faulted, hn]; decide)
  | ill op => exact ⟨op, rfl⟩

/-- A `Step` of the M6502 that faults ends in the fault of ILL, raised where `PC` stood (R300, R505). -/
theorem CpuStep.fault {n m : NStack} (hn : n.Inv) (hs : n.CpuStep m) (hf : n.cpu.faulted = false)
    (hm : m.cpu.faulted = true) :
    ∃ op, m.cpu.faultInfo = some ⟨.illegalOpcode op, n.cpu.pc⟩ ∧ m.cycles = 0 := by
  cases hs with
  | head hh => exact absurd ((faulted_of_stepHead_done hn hh).symm.trans hm) (by rw [hf]; decide)
  | @instr m' _ hh hi =>
    obtain rfl := eq_of_stepHead_execute hh
    have hcpu : m'.fetch.2.cpu = m'.cpu := fetch_cpu m'
    obtain ⟨op, hop⟩ := hi.fault (by rw [hcpu, hf]) hm
    exact ⟨op, by rw [hop, raiseFault_cpu_faultInfo, hcpu], by rw [hop, raiseFault_cycles]⟩

end NStack

namespace GStack

/-- A DMA unit leaves the core alone (R101). -/
@[simp] theorem dmaUnit_cpu (g : GStack) : g.dmaUnit.cpu = g.cpu := by simp [dmaUnit, poke]

/-- In the range of the invariant the DMA arm is one unit (R101, R506). -/
theorem dmaArm_of_lt {g : GStack} (h : g.dma.index < Config.gDmaUnits) : g.dmaArm = g.dmaUnit :=
  if_neg (Nat.not_le.mpr h)

/-- The fetch leaves the core alone (R310). -/
@[simp] theorem fetch_cpu (g : GStack) : g.fetch.2.cpu = g.cpu := by
  have hif (m : GStack) (c : Bool) (a : Word) : (m.fetchIf c a).2.cpu = m.cpu := by
    unfold fetchIf
    split
    · exact read_cpu ..
    · rfl
  simp [fetch, hif]

/-- No arm before (d) faults (R502, R506). -/
theorem faulted_of_stepHead_done {g m : GStack} (hg : g.Inv) (h : g.stepHead = .done m) :
    m.cpu.faulted = g.cpu.faulted := by
  unfold stepHead at h
  split_ifs at h with _ _ _ _ ha
  all_goals obtain rfl := Head.done.inj h
  · rfl
  · rw [serviceInterrupt_cpu]
  · rfl
  · rfl
  · rw [dmaArm_of_lt (g := g.releaseHalt.releaseStop) (hg.dmaActive ha), dmaUnit_cpu]
    rfl

/-- The arms before (d) release the core on the way to an instruction, and change nothing else (R502). -/
theorem eq_of_stepHead_execute {g m : GStack} (h : g.stepHead = .execute m) : m = g.releaseHalt.releaseStop := by
  unfold stepHead at h
  split_ifs at h
  exact (Head.execute.inj h).symm

/-- A `Step` of the SM83 that faults ends in the fault of an illegal opcode, raised where `PC` stood (R447, R505). -/
theorem CpuStep.fault {g m : GStack} (hg : g.Inv) (hs : g.CpuStep m) (hf : g.cpu.faulted = false)
    (hm : m.cpu.faulted = true) :
    ∃ op, m.cpu.faultInfo = some ⟨.illegalOpcode op, g.cpu.pc⟩ ∧ m.cycles = 0 := by
  cases hs with
  | head hh => exact absurd ((faulted_of_stepHead_done hg hh).symm.trans hm) (by rw [hf]; decide)
  | @instr m' _ hh hi =>
    obtain rfl := eq_of_stepHead_execute hh
    obtain ⟨op, rfl⟩ | ⟨-, hsame, -⟩ := hi.status g.releaseHalt.releaseStop.fetch.2
    · exact ⟨op, by rw [illegal, raiseFault_cpu_faultInfo, fetch_cpu]; rfl, rfl⟩
    · rw [hsame, fetch_cpu] at hm
      exact absurd hm (by rw [show g.releaseHalt.releaseStop.cpu.faulted = g.cpu.faulted from rfl, hf]; decide)

end GStack

end Sys2Proof.Machine

namespace Sys2Proof.Proofs

open Sys2Proof.Machine

/-- Settles O57: under the invariant no arm before (d) faults, and an instruction faults by its illegal opcode alone. -/
theorem onlyIllegalOpcodesFault : Obligations.OnlyIllegalOpcodesFault := by
  unfold Obligations.OnlyIllegalOpcodesFault
  intro s t hs hf he ht
  cases hst : s.stack with
  | nStack =>
    obtain ⟨m, hm, hstep⟩ := step_nStack s.n
    obtain rfl := Host.Outcome.next.inj ((hstep s hst rfl).symm.trans he)
    simp only [State.faulted, hst, NStack.finishStep_faulted] at hf ht
    obtain ⟨op, hinfo, hc⟩ := hm.fault hs.n hf ht
    refine ⟨⟨.illegalOpcode op, s.n.cpu.pc⟩, rfl, fun _ => ⟨?_, rfl, (NStack.finishStep_cycles m).trans hc⟩, nofun⟩
    rw [NStack.finishStep_after]
    exact hinfo
  | gStack =>
    obtain ⟨m, hm, hstep⟩ := step_gStack s.g
    obtain rfl := Host.Outcome.next.inj ((hstep s hst rfl).symm.trans he)
    simp only [State.faulted, hst, GStack.finishStep_cpu] at hf ht
    obtain ⟨op, hinfo, hc⟩ := hm.fault hs.g hf ht
    refine ⟨⟨.illegalOpcode op, s.g.cpu.pc⟩, rfl, nofun, fun _ => ⟨?_, rfl, (GStack.finishStep_cycles m).trans hc⟩⟩
    rw [GStack.finishStep_cpu]
    exact hinfo

end Sys2Proof.Proofs
end

section
/-! Proofs. The steps of a session that is faulted, sleeps or has halted (R502, R503, R533, R535, R680). -/

open Sys2Proof.Stated

namespace Sys2Proof.Machine

/-! ### A faulted or sleeping session -/

theorem step_of_nHead {s : State} {m : NStack} (hst : s.stack = .nStack) (h : s.n.stepHead = .done m) :
    step s = .next { s with n := m.finishStep } := by
  simp only [step, cpuStep_of_nHead hst h, State.finishStep, hst]

theorem step_of_gHead {s : State} {m : GStack} (hst : s.stack = .gStack) (h : s.g.stepHead = .done m) :
    step s = .next { s with g := m.finishStep } := by
  simp only [step, cpuStep_of_gHead hst h, State.finishStep, hst]

/-- A faulted core stands still, and the driver does nothing (R126, R502, R505). -/
theorem step_of_nFaulted {s : State} (hst : s.stack = .nStack) (hf : s.n.cpu.faulted = true) :
    step s = .next { s with n := { s.n with cycles := 0 } } := by
  rw [step_of_nHead hst (m := { s.n with cycles := 0 }) (by rw [NStack.stepHead, if_pos hf]), NStack.finishStep,
    if_pos hf]

theorem step_of_gFaulted {s : State} (hst : s.stack = .gStack) (hf : s.g.cpu.faulted = true) :
    step s = .next { s with g := { s.g with cycles := 0 } } := by
  rw [step_of_gHead hst (m := { s.g with cycles := 0 }) (by rw [GStack.stepHead, if_pos hf]), GStack.finishStep,
    if_pos hf]

namespace GStack

/-- A halted core without an enabled request stalls (R502, R533). -/
theorem stepHead_halted {g : GStack} (hf : g.cpu.faulted = false) (hh : g.cpu.halted = true)
    (hp : g.irq.pending = 0) : g.stepHead = .done g.stall := by
  have hirq : (g.cpu.ime && g.irq.pending != 0) = false := by simp [hp]
  have hhalt : (g.cpu.halted && g.irq.pending == 0) = true := by simp [hh, hp]
  rw [stepHead, hf, hirq, hhalt]
  rfl

/-- A stopped core without the joypad request stalls, its halted state released (R502, R535). -/
theorem stepHead_stopped {g : GStack} (hf : g.cpu.faulted = false) (hi : g.cpu.ime = false ∨ g.irq.pending = 0)
    (hh : g.cpu.halted = false ∨ g.irq.pending ≠ 0) (hs : g.cpu.stopped = true) (hj : g.irq.ifReg.getLsbD 4 = false) :
    g.stepHead = .done g.releaseHalt.stall := by
  have hirq : (g.cpu.ime && g.irq.pending != 0) = false := by obtain h | h := hi <;> simp [h]
  have hhalt : (g.cpu.halted && g.irq.pending == 0) = false := by
    obtain h | h := hh
    · rw [h, Bool.false_and]
    · rw [beq_false_of_ne h, Bool.and_false]
  have hstop : (g.cpu.stopped && !g.stopWakes) = true := by
    change (g.cpu.stopped && !g.irq.ifReg.getLsbD 4) = true
    rw [hs, hj]
    rfl
  rw [stepHead, hf, hirq, hhalt, hstop]
  rfl

/-- The peripherals change no enable bit (R126). -/
@[simp] theorem finishStep_ieReg (g : GStack) : g.finishStep.irq.ieReg = g.irq.ieReg := by
  unfold finishStep
  split
  · rfl
  · exact (GPpu.advance_ieReg ..).trans (GTimer.advance_ieReg ..)

/-- The driver's turn stores nothing (R126). -/
@[simp] theorem finishStep_mem (g : GStack) : g.finishStep.mem = g.mem := by rw [finishStep_after]

/-- Only a halted core with nothing enabled sleeps for good: the joypad ends every stop (R535, R680). -/
theorem asleep_iff (g : GStack) : g.asleep = true ↔ g.cpu.halted = true ∧ g.irq.ieReg = 0 := by
  simp [asleep, Config.gStopWake]

end GStack

/-! ### A session that spins -/

namespace NStack

/-- With no interrupt due a `Step` is a DMA unit or an instruction (R502). -/
theorem stepHead_of_not_due {n : NStack} (hf : n.cpu.faulted = false) (hn : n.cpu.nmiPending = false)
    (hi : (n.cpu.irqLine && !n.cpu.p.i) = false) :
    n.stepHead = if n.dma.active then .done n.dmaArm else .execute n := by
  rw [stepHead, hf, hn, hi]
  rfl

end NStack

namespace GStack

/-- Awake and with no interrupt due a `Step` is a DMA unit or an instruction (R502). -/
theorem stepHead_of_not_due {g : GStack} (hf : g.cpu.faulted = false) (hi : (g.cpu.ime && g.irq.pending != 0) = false)
    (hh : g.cpu.halted = false) (hs : g.cpu.stopped = false) :
    g.stepHead = if g.dma.active then .done g.dmaArm else .execute g := by
  rw [stepHead, hf, hi, hh, hs, releaseHalt_eq hh, releaseStop_eq hs]
  rfl

end GStack

/-- A step of a spinning N-stack session is a DMA unit or the self-jump, and neither touches the core or the RAM. -/
theorem State.spins.step_nStack {s : State} (h : s.spins) (hst : s.stack = .nStack) :
    ∃ m : NStack, Machine.step s = .next { s with n := m.finishStep } ∧ m.cpu = s.n.cpu ∧ m.ram = s.n.ram ∧
      m.prgRam = s.n.prgRam := by
  obtain ⟨st, n, g⟩ := s
  obtain rfl : st = .nStack := hst
  obtain ⟨hf, -, hdue, t, ht, hself⟩ := h _ .here
  obtain ⟨hn, hi⟩ := Bool.or_eq_false_iff.mp hdue
  have hhead := NStack.stepHead_of_not_due hf hn hi
  cases ha : n.dma.active with
  | true =>
    rw [ha, if_pos rfl] at hhead
    have hstep := step_of_nHead (s := ⟨.nStack, n, g⟩) rfl hhead
    have hlt : n.dma.index < Config.mDmaUnits := by
      by_contra hge
      have hnext := (h _ (.step .here hstep)).1
      rw [State.faulted, NStack.dmaArm, if_pos (Nat.not_lt.mp hge)] at hnext
      exact absurd hnext (by simp)
    rw [NStack.dmaArm_of_lt hlt] at hstep
    exact ⟨_, hstep, n.dmaUnit_cpu, n.dmaUnit_ram, n.dmaUnit_prgRam⟩
  | false =>
    rw [ha, if_neg Bool.false_ne_true] at hhead
    obtain ⟨u, hu, hstep⟩ := step_of_execute (s := ⟨.nStack, n, g⟩) (u := ⟨.nStack, n, g⟩)
      (by simp only [State.stepHead, hhead])
    obtain rfl := Host.Outcome.next.inj (ht.symm.trans hu)
    obtain ⟨joy, port, cycles, rfl⟩ : ∃ joy port cycles,
      t = ⟨.nStack, { n with joy := joy, ppuPort := port, cycles := cycles }, g⟩ := ⟨_, _, _, hself⟩
    exact ⟨_, hstep, rfl, rfl, rfl⟩

/-- A step of a spinning G-stack session is a DMA unit or the self-jump: it leaves the core but for an EI on its way,
and the memories but for a running transfer. -/
theorem State.spins.step_gStack {s : State} (h : s.spins) (hst : s.stack = .gStack) :
    ∃ m : GStack, Machine.step s = .next { s with g := m.finishStep } ∧
      m.cpu = { s.g.cpu with ime := m.cpu.ime, imeDelay := m.cpu.imeDelay } ∧
      m.mem = { s.g.mem with oam := m.mem.oam } ∧ (s.g.dma.active = false → m.mem.oam = s.g.mem.oam) := by
  obtain ⟨st, n, g⟩ := s
  obtain rfl : st = .gStack := hst
  obtain ⟨hf, hawake, hdue, t, ht, hself⟩ := h _ .here
  obtain ⟨hh, hs⟩ : g.cpu.halted = false ∧ g.cpu.stopped = false := by simpa [State.awake] using hawake
  have hhead := GStack.stepHead_of_not_due hf hdue hh hs
  cases ha : g.dma.active with
  | true =>
    rw [ha, if_pos rfl] at hhead
    have hstep := step_of_gHead (s := ⟨.gStack, n, g⟩) rfl hhead
    have hlt : g.dma.index < Config.gDmaUnits := by
      by_contra hge
      have hnext := (h _ (.step .here hstep)).1
      rw [State.faulted, GStack.dmaArm, if_pos (Nat.not_lt.mp hge)] at hnext
      exact absurd hnext (by simp)
    rw [GStack.dmaArm_of_lt hlt] at hstep
    refine ⟨_, hstep, by rw [GStack.dmaUnit_cpu], by simp [GStack.dmaUnit, GStack.poke], nofun⟩
  | false =>
    rw [ha, if_neg Bool.false_ne_true] at hhead
    obtain ⟨u, hu, hstep⟩ := step_of_execute (s := ⟨.gStack, n, g⟩) (u := ⟨.gStack, n, g⟩)
      (by simp only [State.stepHead, hhead])
    obtain rfl := Host.Outcome.next.inj (ht.symm.trans hu)
    obtain ⟨ime, delay, port, cycles, rfl⟩ : ∃ ime delay port cycles, t = ⟨.gStack, n, { g with
      cpu := { g.cpu with ime := ime, imeDelay := delay }, apuPort := port, cycles := cycles }⟩ := ⟨_, _, _, _, hself⟩
    exact ⟨_, hstep, rfl, rfl, fun _ => rfl⟩

/-! ### A halted program -/

/-- What a step of a halted program leaves (R680). -/
def State.StaysHalted (s t : State) : Prop :=
  t.programHalted ∧ t.n.cpu = s.n.cpu ∧ t.n.ram = s.n.ram ∧ t.n.prgRam = s.n.prgRam ∧
    t.g.cpu = { s.g.cpu with ime := t.g.cpu.ime, imeDelay := t.g.cpu.imeDelay } ∧
    t.g.mem = { s.g.mem with oam := t.g.mem.oam } ∧ (s.g.dma.active = false → t.g.mem.oam = s.g.mem.oam)

theorem State.staysHalted_of_faulted {s : State} (h : s.faulted = true) :
    ∃ t, Machine.step s = .next t ∧ s.StaysHalted t := by
  obtain ⟨st, n, g⟩ := s
  cases st with
  | nStack => exact ⟨_, step_of_nFaulted rfl h, .inl h, rfl, rfl, rfl, rfl, rfl, fun _ => rfl⟩
  | gStack => exact ⟨_, step_of_gFaulted rfl h, .inl h, rfl, rfl, rfl, rfl, rfl, fun _ => rfl⟩

theorem State.staysHalted_of_asleep {s : State} (hf : s.faulted = false) (hst : s.stack = .gStack)
    (h : s.g.asleep = true) : ∃ t, Machine.step s = .next t ∧ s.StaysHalted t := by
  obtain ⟨st, n, g⟩ := s
  obtain rfl : st = .gStack := hst
  obtain ⟨hh, hie⟩ := g.asleep_iff.mp h
  have hp : g.irq.pending = 0 := by simp [GIrq.pending, hie]
  refine ⟨_, step_of_gHead rfl (GStack.stepHead_halted hf hh hp), .inr (.inl ⟨rfl, ?_⟩), rfl, rfl, rfl, ?_, ?_,
    fun _ => ?_⟩
  · exact (GStack.asleep_iff _).mpr ⟨by simpa using hh, by simpa using hie⟩
  · simp
  · simp
  · simp

/-- A step of a spinning session leaves a state that it reaches, so no NMI is latched there, and it spins on. -/
theorem State.staysHalted_of_spins {s : State} (h : s.spins) : ∃ t, Machine.step s = .next t ∧ s.StaysHalted t := by
  cases hst : s.stack with
  | nStack =>
    obtain ⟨m, hstep, hcpu, hram, hprg⟩ := h.step_nStack hst
    have hreach := State.GoesOnTo.step .here hstep
    have hnmi {t : State} (ht : s.GoesOnTo t) (hn : t.stack = .nStack) : t.n.cpu.nmiPending = false := by
      have hdue := (h t ht).2.2.1
      rw [State.interruptDue, hn] at hdue
      exact (Bool.or_eq_false_iff.mp hdue).1
    have hkept : m.finishStep.cpu.nmiPending = m.cpu.nmiPending := by
      rw [hcpu, hnmi .here hst]
      exact hnmi hreach hst
    refine ⟨_, hstep, .inr (.inr (h.after hreach)), ?_, ?_, ?_, rfl, rfl, fun _ => rfl⟩
    · rw [NStack.finishStep_after, hkept]
      exact hcpu
    · rw [NStack.finishStep_after]
      exact hram
    · rw [NStack.finishStep_after]
      exact hprg
  | gStack =>
    obtain ⟨m, hstep, hcpu, hmem, hoam⟩ := h.step_gStack hst
    refine ⟨_, hstep, .inr (.inr (h.after (.step .here hstep))), rfl, rfl, rfl, ?_, ?_, ?_⟩
    · rw [GStack.finishStep_cpu]
      exact hcpu
    · rw [GStack.finishStep_mem]
      exact hmem
    · rw [GStack.finishStep_mem]
      exact hoam

end Sys2Proof.Machine

namespace Sys2Proof.Proofs

open Sys2Proof.Machine

/-- Settles O49: the fault and the stalls are arms of the head; a spinning session makes DMA units and self-jumps, and
what a step of it leaves is a state it reaches, so that spins too and has no NMI latched. -/
theorem faultedSleepingAndHaltedPrograms : Obligations.FaultedSleepingAndHaltedPrograms := by
  unfold Obligations.FaultedSleepingAndHaltedPrograms
  refine ⟨fun s => ⟨step_of_nFaulted, step_of_gFaulted⟩, fun s hst hf hi => ⟨fun hh hp => ?_, fun hh hs hj => ?_⟩,
    fun s h => ?_⟩
  · exact cpuStep_of_gHead hst (GStack.stepHead_halted hf hh hp)
  · exact cpuStep_of_gHead hst (GStack.stepHead_stopped hf hi hh hs hj)
  · cases hf : s.faulted with
    | true => exact State.staysHalted_of_faulted hf
    | false =>
      obtain h | ⟨hst, h⟩ | h := h
      · exact absurd (hf.symm.trans h) Bool.false_ne_true
      · exact State.staysHalted_of_asleep hf hst h
      · exact State.staysHalted_of_spins h

end Sys2Proof.Proofs
end

section
/-! Proofs. The joypad registers of both stacks (R84, R610, R611). -/

open Sys2Proof.Stated

namespace Sys2Proof.Machine

/-! ### The N-stack: a shift register that fills up with ones -/

/-- What a read leaves in a joypad's register while the strobe is low (R84). -/
def joypadShift (v : Byte) : Byte := (v >>> 1) ||| 0x80

/-- After `k` reads a bit of the register is the bit `k` places up, and 1 past the top (R84). -/
theorem getLsbD_iterate_joypadShift (v : Byte) (k : Nat) {i : Nat} (hi : i < 8) :
    (joypadShift^[k] v).getLsbD i = (decide (8 ≤ i + k) || v.getLsbD (i + k)) := by
  induction k generalizing i with
  | zero => simp [Nat.not_le.mpr hi]
  | succ k ih =>
    rw [Function.iterate_succ_apply', joypadShift, BitVec.getLsbD_or, BitVec.getLsbD_ushiftRight]
    obtain rfl | h7 : i = 7 ∨ i < 7 := by omega
    · simp [show 8 ≤ 7 + (k + 1) by omega]
    · have h80 : (0x80 : Byte).getLsbD i = false := by
        revert i
        decide
      rw [ih (by omega), h80, Bool.or_false, Nat.add_comm 1 i, Nat.add_assoc, Nat.add_comm 1 k]

/-- The bit that the read after `k` others answers. -/
theorem iterate_joypadShift_mod_two (v : Byte) (k : Nat) :
    (joypadShift^[k] v).toNat % 2 = if k < 8 then v.toNat / 2 ^ k % 2 else 1 := by
  have hbit := getLsbD_iterate_joypadShift v k (i := 0) (by decide)
  rw [Nat.zero_add, getLsbD_eq_decide, getLsbD_eq_decide, pow_zero, Nat.div_one, ← Bool.decide_or,
    decide_eq_decide] at hbit
  split_ifs <;> omega

/-- The answer of a joypad register as a number (R84). -/
theorem joypad_or_bit : ∀ v : Byte, (0x40 : Byte) ||| (v &&& 1) = BitVec.ofNat 8 (0x40 + v.toNat % 2) := by decide

/-- The address of a controller's register (R84). -/
def joypadPort (second : Bool) : Word := if second then 0x4017 else 0x4016

namespace NJoypad

variable (j : NJoypad) (second : Bool) (v : Byte)

@[simp] theorem shift_setShift : (j.setShift second v).shift second = v := by cases second <;> rfl
@[simp] theorem setShift_setShift (w : Byte) : (j.setShift second v).setShift second w = j.setShift second w := by
  cases second <;> rfl
@[simp] theorem setShift_shift : j.setShift second (j.shift second) = j := by cases second <;> rfl
@[simp] theorem setShift_strobe : (j.setShift second v).strobe = j.strobe := by cases second <;> rfl

/-- While the strobe is high a read gives button A and shifts nothing (R84). -/
theorem read_of_strobe (h : j.strobe = true) :
    j.read second = (BitVec.ofNat 8 (0x40 + (j.buttons second).toNat % 2), j) := by
  rw [read, if_pos h, joypad_or_bit]

/-- With the strobe low a read shifts its register (R84). -/
theorem read_of_not_strobe (h : j.strobe = false) : j.read second =
    (BitVec.ofNat 8 (0x40 + (j.shift second).toNat % 2), j.setShift second (joypadShift (j.shift second))) := by
  rw [read, if_neg (by simp [h]), joypad_or_bit]
  rfl

end NJoypad

namespace NStack

theorem read_joypadPort (n : NStack) (second : Bool) :
    n.read (joypadPort second) = ((n.joy.read second).1, { n with joy := (n.joy.read second).2 }) := by
  cases second <;> rfl

/-- A write of 0x4016 with bit 0 set loads both registers and holds them (R84). -/
theorem write_strobe_high (n : NStack) (v : Byte) : n.write 0x4016 (v ||| 1) =
    { n with joy := { n.joy with strobe := true, shift0 := n.joy.buttons0, shift1 := n.joy.buttons1 } } := by
  have hbit : ∀ v : Byte, (v ||| 1).getLsbD 0 = true := by decide
  change { n with joy := n.joy.writeStrobe (v ||| 1) } = _
  rw [NJoypad.writeStrobe, if_pos (hbit v)]

/-- A write of 0x4016 with bit 0 clear lets them go (R84). -/
theorem write_strobe_low (n : NStack) (v : Byte) :
    n.write 0x4016 (v &&& 0xFE) = { n with joy := { n.joy with strobe := false } } := by
  have hbit : ∀ v : Byte, (v &&& 0xFE).getLsbD 0 = false := by decide
  change { n with joy := n.joy.writeStrobe (v &&& 0xFE) } = _
  rw [NJoypad.writeStrobe, if_neg (by rw [hbit]; decide)]

/-- What `k` reads of a register leave with the strobe low. -/
theorem iterate_read_joypadPort {n : NStack} (h : n.joy.strobe = false) (second : Bool) (k : Nat) :
    (fun m : NStack => (m.read (joypadPort second)).2)^[k] n =
      { n with joy := n.joy.setShift second (joypadShift^[k] (n.joy.shift second)) } := by
  induction k with
  | zero => simp
  | succ k ih =>
    rw [Function.iterate_succ_apply', ih, read_joypadPort, NJoypad.read_of_not_strobe _ _ (by simpa using h),
      Function.iterate_succ_apply']
    simp

/-- What the read after them answers. -/
theorem read_iterate_joypadPort {n : NStack} (h : n.joy.strobe = false) (second : Bool) (k : Nat) :
    (((fun m : NStack => (m.read (joypadPort second)).2)^[k] n).read (joypadPort second)).1 =
      BitVec.ofNat 8 (0x40 + if k < 8 then (n.joy.shift second).toNat / 2 ^ k % 2 else 1) := by
  rw [iterate_read_joypadPort h, read_joypadPort, NJoypad.read_of_not_strobe _ _ (by simpa using h),
    ← iterate_joypadShift_mod_two]
  simp

end NStack

/-! ### The G-stack: lines that a pressed key of a selected group pulls to 0 -/

/-- A line of P1: 0 where a key of a selected group is pressed (R610). -/
theorem getLsbD_p1Low (sel : BitVec 2) (btn : Byte) {k : Nat} (hk : k < 4) : (p1Low sel btn).getLsbD k =
    !((!sel.getLsbD 0 && btn.getLsbD k) || (!sel.getLsbD 1 && btn.getLsbD (4 + k))) := by
  have hF : ∀ (k : Nat) (h : k < 4), (0xF#4)[k] = true := by decide
  unfold p1Low
  cases sel.getLsbD 0 <;> cases sel.getLsbD 1 <;> simp [hk, hF]

/-- P1 as it reads: two fixed bits, the select bits, the lines (R610). -/
theorem p1_append : ∀ (sel : BitVec 2) (low : BitVec 4),
    (0b11#2 ++ sel ++ low : Byte).extractLsb' 0 4 = low ∧
      (0b11#2 ++ sel ++ low : Byte).toNat / 16 = 12 + sel.toNat := by
  decide

/-- Some bit is 1 before and 0 after exactly where the lines that fall are not none. -/
theorem and_not_ne_zero_iff (before after : BitVec 4) : (before &&& ~~~after != 0) = true ↔
    ∃ k < 4, before.getLsbD k = true ∧ after.getLsbD k = false := by
  revert before after
  decide

end Sys2Proof.Machine

namespace Sys2Proof.Proofs

open Sys2Proof.Machine

/-- Settles O35: reads of the N-stack's registers are iterated shifts; the G-stack's request is one on falling lines. -/
theorem joypadRegisters : Obligations.JoypadRegisters := by
  unfold Obligations.JoypadRegisters
  refine ⟨fun n second v => ?_, fun g v => ?_⟩
  · intro port byte next on off
    have hon : on = _ := n.write_strobe_high v
    have hoff : off = { on with joy := { on.joy with strobe := false } } := on.write_strobe_low v
    have hshift : off.joy.shift second = byte := by
      rw [hoff, hon]
      cases second <;> rfl
    have hlow : off.joy.strobe = false := by rw [hoff]
    have hread (k : Nat) : ((next^[k] off).read port).1 =
        BitVec.ofNat 8 (0x40 + if k < 8 then byte.toNat / 2 ^ k % 2 else 1) := by
      rw [← hshift]
      exact NStack.read_iterate_joypadPort hlow second k
    refine ⟨?_, by rw [hon], by rw [hon], hlow, fun k hk => ?_, fun k => ?_⟩
    · refine (on.read_joypadPort second).trans ?_
      rw [NJoypad.read_of_strobe _ _ (by rw [hon]), hon]
      cases second <;> rfl
    · rw [hread, if_pos hk]
    · rw [hread, if_neg (by omega)]
      rfl
  · intro line
    have hline (btn : Byte) {k : Nat} (hk : k < 4) : (p1Low g.joy.select btn).getLsbD k = line btn k :=
      getLsbD_p1Low _ _ hk
    have hp1 : g.read 0xFF00 = (0b11#2 ++ g.joy.select ++ p1Low g.joy.select g.joy.buttons, g) := rfl
    obtain ⟨hlow, hhigh⟩ := p1_append g.joy.select (p1Low g.joy.select g.joy.buttons)
    refine ⟨fun k hk => ?_, ?_, ?_, ?_, ?_⟩
    · rw [hp1, ← hline _ hk]
      conv_rhs => rw [← hlow]
      simp [hk]
    · rw [hp1]
      exact hhigh
    · rw [hp1]
    · rw [show BitVec.ofNat 2 (v.toNat / 16) = v.extractLsb' 4 2 from (extractLsb'_eq_ofNat_div v 4 2).symm]
      rfl
    · have hfall : (p1Low g.joy.select g.joy.buttons &&& ~~~p1Low g.joy.select v != 0) = true ↔
          ∃ k < 4, line g.joy.buttons k = true ∧ line v k = false := by
        rw [and_not_ne_zero_iff]
        refine exists_congr fun k => and_congr_right fun hk => ?_
        rw [hline _ hk, hline _ hk]
      rw [GStack.setButtons, GIrq.requestIf]
      simp only [hfall]
      split_ifs <;> rfl

end Sys2Proof.Proofs
end

section
/-! Proofs. The timer: one increment in a period of the selected rate, and the reload four ticks after a wrap (R560 to
R564). -/

open Sys2Proof.Stated

namespace Sys2Proof.Machine

namespace GTimer

/-- The ticks between two falling edges of the bit that TAC selects (R563). -/
def period (t : GTimer) : Nat := 2 ^ (t.rateBit + 1)

theorem rateBit_eq (t : GTimer) : t.rateBit =
    if t.tac.toNat % 4 = 0 then 9 else if t.tac.toNat % 4 = 1 then 3
    else if t.tac.toNat % 4 = 2 then 5 else 7 := by
  unfold rateBit
  generalize t.tac = tac
  revert tac
  decide

theorem enabled_eq (t : GTimer) : t.enabled = decide (4 ≤ t.tac.toNat) := by
  unfold enabled
  generalize t.tac = tac
  revert tac
  decide

theorem period_eq (t : GTimer) : t.period =
    if t.tac.toNat % 4 = 0 then 1024 else if t.tac.toNat % 4 = 1 then 16
    else if t.tac.toNat % 4 = 2 then 64 else 256 := by
  rw [period, rateBit_eq]
  split_ifs <;> rfl

/-- The period divides the divider's own, and takes more ticks than a reload does. -/
theorem period_cases (t : GTimer) : t.period = 1024 ∨ t.period = 16 ∨ t.period = 64 ∨ t.period = 256 := by
  rw [period_eq]
  split_ifs <;> simp

/-- A bit falls when the count of it and the bits below it goes round. -/
theorem testBit_falls_iff (n b : Nat) :
    n.testBit b = true ∧ (n + 1).testBit b = false ↔ (n + 1) % 2 ^ (b + 1) = 0 := by
  have hpos : 0 < 2 ^ b := Nat.two_pow_pos b
  have hsucc : (n + 1) / 2 ^ b = n / 2 ^ b + if (n + 1) % 2 ^ b = 0 then 1 else 0 := by
    rw [Nat.succ_div]
    simp only [Nat.dvd_iff_mod_eq_zero]
  rw [pow_succ, Nat.mod_mul, Nat.add_eq_zero_iff, Nat.mul_eq_zero, Nat.testBit_eq_decide_div_mod_eq,
    Nat.testBit_eq_decide_div_mod_eq, decide_eq_true_iff, decide_eq_false_iff_not, hsucc]
  split_ifs <;> omega

/-- The next tick is a falling edge of the selected bit with the timer enabled (R562). -/
def Falls (t : GTimer) : Prop := 4 ≤ t.tac.toNat ∧ (t.div16.toNat + 1) % t.period = 0

/-- That is the edge which the timer looks for (R562). -/
theorem edge_iff_falls (t : GTimer) :
    (t.enabled && t.div16.getLsbD t.rateBit && !(t.div16 + 1).getLsbD t.rateBit) = true ↔ t.Falls := by
  have hb : t.rateBit < 16 := by
    rw [rateBit_eq]
    split_ifs <;> decide
  have hnext : (t.div16 + 1).getLsbD t.rateBit = (t.div16.toNat + 1).testBit t.rateBit := by
    rw [BitVec.getLsbD, BitVec.toNat_add, Nat.testBit_mod_two_pow, decide_eq_true hb, Bool.true_and]
    rfl
  rw [Falls, period, ← testBit_falls_iff, hnext, enabled_eq, Bool.and_eq_true, Bool.and_eq_true, Bool.not_eq_true',
    decide_eq_true_iff, and_assoc]
  rfl

/-- A tick with no wrap behind it is the divider's step. -/
theorem tick_of_ovfDelay_zero {t : GTimer} (h : t.ovfDelay = 0) (q : GIrq) : tick (t, q) = (t.tickDivider, q) := by
  rw [tick, tickDelay, if_pos h]

/-- A tick between the falling edges moves the divider alone. -/
theorem tickDivider_of_not_falls {t : GTimer} (h : ¬ t.Falls) : t.tickDivider = { t with div16 := t.div16 + 1 } :=
  if_neg (mt t.edge_iff_falls.mp h)

theorem tickDivider_of_falls {t : GTimer} (h : t.Falls) :
    t.tickDivider = { t with div16 := t.div16 + 1 }.timaInc :=
  if_pos (t.edge_iff_falls.mpr h)

theorem advance_succ (c : Nat) (t : GTimer) (q : GIrq) : t.advance (c + 1) q = tick (t.advance c q) := by
  rw [advance_eq, advance_eq, Function.iterate_succ_apply']

theorem ofNat_succ (c : Nat) (w : Word) : w + BitVec.ofNat 16 c + 1 = w + BitVec.ofNat 16 (c + 1) := by
  rw [BitVec.ofNat_add, BitVec.add_assoc]
  rfl

/-- Disabled, the timer is its divider (R561). -/
theorem advance_of_disabled {t : GTimer} (h : t.ovfDelay = 0) (hd : t.tac.toNat < 4) (q : GIrq) (c : Nat) :
    t.advance c q = ({ t with div16 := t.div16 + BitVec.ofNat 16 c }, q) := by
  induction c with
  | zero => exact congrArg (fun w => (({ t with div16 := w } : GTimer), q)) (BitVec.add_zero _).symm
  | succ c ih =>
    have hfalls : ¬ Falls { t with div16 := t.div16 + BitVec.ofNat 16 c } := fun hf => absurd hf.1 (Nat.not_le.mpr hd)
    rw [advance_succ, ih, tick_of_ovfDelay_zero (by exact h), tickDivider_of_not_falls hfalls, ofNat_succ]

/-- The next falling edge after `c` ticks. -/
theorem falls_add_iff {t : GTimer} (he : 4 ≤ t.tac.toNat) (c : Nat) :
    Falls { t with div16 := t.div16 + BitVec.ofNat 16 c } ↔ (t.div16.toNat % t.period + c + 1) % t.period = 0 := by
  have hp := t.period_cases
  have hsame : period { t with div16 := t.div16 + BitVec.ofNat 16 c } = t.period := rfl
  rw [Falls, hsame, BitVec.toNat_add, BitVec.toNat_ofNat]
  refine (and_iff_right he).trans ?_
  obtain h | h | h | h := hp <;> rw [h] <;> omega

/-- With no wrap to come, a period at most contains one falling edge, at its place (R563). -/
theorem advance_of_le_period {t : GTimer} (h : t.ovfDelay = 0) (he : 4 ≤ t.tac.toNat) (hw : t.tima ≠ 0xFF) (q : GIrq)
    {c : Nat} (hc : c ≤ t.period) : t.advance c q =
      ({ t with div16 := t.div16 + BitVec.ofNat 16 c
                tima := if t.period ≤ t.div16.toNat % t.period + c then t.tima + 1 else t.tima }, q) := by
  have hp := t.period_cases
  have hr : t.div16.toNat % t.period < t.period := Nat.mod_lt _ (by omega)
  induction c with
  | zero =>
    rw [if_neg (by omega)]
    exact congrArg (fun w => (({ t with div16 := w } : GTimer), q)) (BitVec.add_zero _).symm
  | succ c ih =>
    rw [advance_succ, ih (by omega), tick_of_ovfDelay_zero (by exact h)]
    by_cases hf : t.div16.toNat % t.period + c + 1 = t.period
    · have hfalls : Falls { t with div16 := t.div16 + BitVec.ofNat 16 c } :=
        (falls_add_iff he c).mpr (by rw [hf, Nat.mod_self])
      rw [if_neg (by omega), if_pos (by omega), tickDivider_of_falls (by exact hfalls), timaInc, if_neg (by exact hw),
        ofNat_succ]
    · have hfalls : ¬ Falls { t with div16 := t.div16 + BitVec.ofNat 16 c } := by
        rw [falls_add_iff he c]
        intro hmod
        obtain hp | hp | hp | hp := hp <;> rw [hp] at hmod hf hc hr <;> omega
      rw [tickDivider_of_not_falls (by exact hfalls), ofNat_succ]
      exact congrArg (fun v => (({ t with div16 := t.div16 + BitVec.ofNat 16 (c + 1), tima := v } : GTimer), q))
        (if_congr (by omega) rfl rfl)

/-! ### The reload -/

/-- A tick of the reload delay that does not end it (R562, R564). -/
theorem tick_of_delay {t : GTimer} (h : 2 ≤ t.ovfDelay) (q : GIrq) :
    tick (t, q) = ({ t with ovfDelay := t.ovfDelay - 1 }.tickDivider, q) := by
  have h0 : t.ovfDelay ≠ 0 := by omega
  have h1 : t.ovfDelay ≠ 1 := by omega
  rw [tick, tickDelay, if_neg h0, if_neg h1]

/-- The tick that ends it takes TMA and requests the interrupt (R562, R564). -/
theorem tick_of_delay_one {t : GTimer} (h : t.ovfDelay = 1) (q : GIrq) :
    tick (t, q) = ({ t with ovfDelay := 0, tima := t.tma }.tickDivider, q.request .timer) := by
  have h0 : t.ovfDelay ≠ 0 := by omega
  rw [tick, tickDelay, if_neg h0, if_pos h]

section

variable {t : GTimer} (hf : t.Falls)

include hf

/-- The four ticks after a falling edge are none: a period is longer. -/
theorem Falls.not_falls_add {c : Nat} (h1 : 1 ≤ c) (h4 : c ≤ 4) :
    ¬ Falls { t with div16 := t.div16 + BitVec.ofNat 16 c } := by
  obtain ⟨he, hmod⟩ := hf
  rw [falls_add_iff he]
  obtain hp | hp | hp | hp := t.period_cases <;> rw [hp] at hmod ⊢ <;> omega

variable (h0 : t.ovfDelay = 0) (hw : t.tima = 0xFF) (q : GIrq)

include h0 hw

/-- After the wrap `TIMA` stands at 0 while the delay runs (R564). -/
theorem Falls.advance_wrap {c : Nat} (hc : c ≤ 3) : t.advance (c + 1) q =
    ({ t with div16 := t.div16 + BitVec.ofNat 16 (c + 1), tima := 0, ovfDelay := 4 - c }, q) := by
  induction c with
  | zero =>
    rw [advance_succ]
    change tick (t, q) = _
    rw [tick_of_ovfDelay_zero h0, tickDivider_of_falls hf, timaInc, if_pos (by exact hw)]
    rfl
  | succ c ih =>
    have hfalls := hf.not_falls_add (c := c + 1) (by omega) (by omega)
    rw [advance_succ, ih (by omega), tick_of_delay (by dsimp only; omega), tickDivider_of_not_falls (by exact hfalls),
      ofNat_succ]
    rfl

/-- The fifth tick reloads it (R564). -/
theorem Falls.advance_wrap_five : t.advance 5 q =
    ({ t with div16 := t.div16 + BitVec.ofNat 16 5, tima := t.tma }, q.request .timer) := by
  have hfalls := hf.not_falls_add (c := 4) (by decide) (by decide)
  rw [advance_succ, hf.advance_wrap h0 hw q (le_refl 3), tick_of_delay_one (by rfl),
    tickDivider_of_not_falls (by exact hfalls), ofNat_succ, ← h0]

end

end GTimer

end Sys2Proof.Machine

namespace Sys2Proof.Proofs

open Sys2Proof.Machine

/-- Settles O38: a period holds one falling edge of the selected bit, and the four ticks after an edge hold none. -/
theorem timerCountsAndReloads : Obligations.TimerCountsAndReloads := by
  unfold Obligations.TimerCountsAndReloads
  refine ⟨fun t q => ?_, fun t q h0 hw hne => ?_⟩
  · rw [← GTimer.period_eq]
    refine ⟨fun c => t.advance_div16 c q, fun h0 he hw => ?_, fun h0 hd => GTimer.advance_of_disabled h0 hd q⟩
    rw [GTimer.advance_of_le_period h0 he hw q (le_refl _), if_pos (Nat.le_add_left _ _)]
  · have hf : t.Falls := by
      by_contra hf
      have hone : t.advance 1 q = GTimer.tick (t, q) := rfl
      rw [hone, GTimer.tick_of_ovfDelay_zero h0, GTimer.tickDivider_of_not_falls hf] at hne
      exact hne hw
    refine ⟨fun c h1 h4 => ?_, ?_, ?_, ?_⟩
    · obtain ⟨k, rfl⟩ := Nat.exists_eq_add_of_le' h1
      rw [hf.advance_wrap h0 hw q (by omega)]
      exact ⟨rfl, rfl⟩
    all_goals rw [hf.advance_wrap_five h0 hw q]
    · exact h0
    · rfl

end Sys2Proof.Proofs
end

section
/-! Proofs. The dots and lines of the picture unit, their requests and the frame handover (R575 to R583). -/

open Sys2Proof.Stated

namespace Sys2Proof.Machine

/-- A request under a condition, as bits of `IF` (R525). -/
theorem GIrq.requestIf_stat (q : GIrq) (c : Bool) :
    q.requestIf c .stat = { q with ifReg := q.ifReg ||| if c then 0b00010 else 0 } := by
  cases c <;> simp [requestIf, request, IrqBit.index]

namespace GPpu

/-! ### The entry to a line -/

/-- Whether the entry to line `n` requests the STAT interrupt (R583). -/
def lineStat (n : Nat) (p : GPpu) : Bool :=
  decide (n < 144) && p.statSel.getLsbD 2 || decide (n = 144) && p.statSel.getLsbD 1 ||
    decide (n = p.lyc.toNat) && p.statSel.getLsbD 3

/-- All that the entry to a line does (R578, R580, R582, R583). -/
theorem enterLine_eq {n : Nat} (hn : n < 154) (p : GPpu) (q : GIrq) : enterLine n p q =
    ({ p with
        ly := BitVec.ofNat 8 n
        winLine := if n = 0 then 0 else p.winLine
        mode := if n < 144 then .oamSearch else if n = 144 then .vblank else p.mode
        frontBuffer := if n = 144 then p.framebuffer else p.frontBuffer
        frameReady := decide (n = 144) || p.frameReady },
      { q with ifReg := q.ifReg ||| (if p.lineStat n then 0b00010 else 0) ||| (if n = 144 then 0b00001 else 0) }) := by
  have hlyc : BitVec.ofNat 8 n = p.lyc ↔ n = p.lyc.toNat := by
    rw [← BitVec.toNat_inj, BitVec.toNat_ofNat, Nat.mod_eq_of_lt (by omega)]
  unfold enterLine
  simp only [coincidence, Config.ppuVisible, lineStat]
  obtain rfl | ⟨h0, h1⟩ | rfl | h1 : n = 0 ∨ (n ≠ 0 ∧ n < 144) ∨ n = 144 ∨ 144 < n := by omega
  · simp [GIrq.requestIf_stat_twice, hlyc, selMode2, selLyc]
  · have hne : n ≠ 144 := by omega
    simp [GIrq.requestIf_stat_twice, hlyc, selMode2, selLyc, h0, h1, hne]
  · simp [GIrq.requestIf_stat_twice, hlyc, selMode1, selLyc, GIrq.request, IrqBit.index, BitVec.or_assoc,
      BitVec.or_comm (1#5)]
  · have h0 : n ≠ 0 := by omega
    have hlt : ¬ n < 144 := by omega
    have hne : n ≠ 144 := by omega
    simp [GIrq.requestIf_stat, hlyc, selLyc, h0, hlt, hne]

/-! ### One dot -/

/-- The line after a line (R577). -/
def nextLine (p : GPpu) : Nat := if p.ly.toNat = 153 then 0 else p.ly.toNat + 1

theorem nextLine_lt {p : GPpu} (h : p.ly.toNat < 154) : p.nextLine < 154 := by
  unfold nextLine
  split_ifs <;> omega

/-- Where the next line starts in the frame. -/
theorem nextLine_mul {p : GPpu} (h : p.ly.toNat < 154) :
    p.nextLine * 456 + 0 = (p.ly.toNat * 456 + 455 + 1) % 70224 := by
  by_cases h153 : p.ly.toNat = 153
  · rw [nextLine, if_pos h153, h153]
  · rw [nextLine, if_neg h153, Nat.mod_eq_of_lt (by omega)]
    omega

section

variable (vram oam : Memory) (p : GPpu) (q : GIrq)

@[simp] theorem dotModes_dot : (dotModes vram oam p q).1.dot = p.dot := by
  unfold dotModes
  split_ifs <;> rfl

@[simp] theorem dotModes_ly : (dotModes vram oam p q).1.ly = p.ly := by
  unfold dotModes
  split_ifs <;> rfl

@[simp] theorem dotModes_frontBuffer : (dotModes vram oam p q).1.frontBuffer = p.frontBuffer := by
  unfold dotModes
  split_ifs <;> rfl

@[simp] theorem dotModes_frameReady : (dotModes vram oam p q).1.frameReady = p.frameReady := by
  unfold dotModes
  split_ifs <;> rfl

/-- Inside a line the entry to mode 0 alone requests (R583). -/
theorem dotModes_irq : (dotModes vram oam p q).2 = { q with
    ifReg := q.ifReg ||| if decide (p.dot = 252 ∧ p.ly.toNat < 144) && p.statSel.getLsbD 0 then 0b00010 else 0 } := by
  unfold dotModes
  simp only [Config.ppuVisible, Config.ppuMode2Dots, Config.ppuMode3Dots]
  by_cases hv : p.ly.toNat < 144
  · by_cases h252 : p.dot = 252
    · simp [hv, h252, GIrq.requestIf_stat, selMode0]
    · by_cases h80 : p.dot = 80
      · simp [hv, h80]
      · simp [hv, h252, h80]
  · simp [hv]

variable {p}

/-- The last dot of a line enters the next line (R577). -/
theorem dotTick_of_lineEnd (h : p.dot = 455) :
    dotTick vram oam (p, q) = enterLine p.nextLine { p with dot := 0 } q := by
  have hm : dotModes vram oam { p with dot := p.dot + 1 } q = ({ p with dot := p.dot + 1 }, q) := by
    simp [dotModes, h, Config.ppuMode2Dots, Config.ppuMode3Dots]
  unfold dotTick
  rw [hm]
  simp only [dotLineEnd, h]
  rfl

/-- Every other dot only passes the thresholds of its line (R577). -/
theorem dotTick_of_inLine (h : p.dot ≠ 455) :
    dotTick vram oam (p, q) = dotModes vram oam { p with dot := p.dot + 1 } q := by
  have hdot : (dotModes vram oam { p with dot := p.dot + 1 } q).1.dot ≠ Config.ppuDots := by
    rw [dotModes_dot]
    change p.dot + 1 ≠ 456
    omega
  unfold dotTick
  exact if_neg hdot

/-- What one dot requests (R577, R578, R580, R583). -/
theorem dotTick_irq (hly : p.ly.toNat < 154) : (dotTick vram oam (p, q)).2 = { q with ifReg := q.ifReg |||
    (if decide (p.dot = 251 ∧ p.ly.toNat < 144) && p.statSel.getLsbD 0 ||
      decide (p.dot = 455) && p.lineStat p.nextLine then 0b00010 else 0) |||
    (if p.dot = 455 ∧ p.nextLine = 144 then 0b00001 else 0) } := by
  by_cases h : p.dot = 455
  · rw [dotTick_of_lineEnd vram oam q h, enterLine_eq (nextLine_lt hly)]
    simp [h, lineStat]
  · rw [dotTick_of_inLine vram oam q h, dotModes_irq]
    simp [h]

/-- One dot forward in the frame of 154 lines of 456 dots (R575 to R577). -/
theorem ppuPos_dotTick (hly : p.ly.toNat < 154) (hdot : p.dot < 456) :
    ppuPos (dotTick vram oam (p, q)).1 = (ppuPos p + 1) % 70224 := by
  by_cases h : p.dot = 455
  · have hn := nextLine_lt hly
    have hbyte : (BitVec.ofNat 8 p.nextLine : Byte).toNat = p.nextLine := Nat.mod_eq_of_lt (by omega)
    rw [dotTick_of_lineEnd vram oam q h, enterLine_eq hn]
    simp only [ppuPos, hbyte, h]
    exact nextLine_mul hly
  · rw [dotTick_of_inLine vram oam q h]
    simp only [ppuPos, dotModes_ly, dotModes_dot]
    omega

/-- The dot that enters line 144, by its place in the frame. -/
theorem enters_vblank_iff (hdot : p.dot < 456) :
    p.dot = 455 ∧ p.nextLine = 144 ↔ ppuPos p + 1 = 65664 := by
  unfold nextLine ppuPos
  by_cases h153 : p.ly.toNat = 153
  · rw [if_pos h153]
    omega
  · rw [if_neg h153]
    omega

/-- A dot that does not enter line 144 hands over nothing and requests no vertical blank (R580, R582). -/
theorem dotTick_of_not_vblank (hly : p.ly.toNat < 154) (hdot : p.dot < 456) (h : ppuPos p + 1 ≠ 65664) :
    (dotTick vram oam (p, q)).2.ifReg.getLsbD 0 = q.ifReg.getLsbD 0 ∧
      (dotTick vram oam (p, q)).1.frontBuffer = p.frontBuffer ∧
      (dotTick vram oam (p, q)).1.frameReady = p.frameReady := by
  have hnot := (enters_vblank_iff hdot).not.mpr h
  refine ⟨?_, ?_⟩
  · rw [dotTick_irq vram oam q hly, if_neg hnot]
    split_ifs <;> simp
  · by_cases hend : p.dot = 455
    · have hne : p.nextLine ≠ 144 := fun he => hnot ⟨hend, he⟩
      rw [dotTick_of_lineEnd vram oam q hend, enterLine_eq (nextLine_lt hly)]
      simp [hne]
    · rw [dotTick_of_inLine vram oam q hend]
      simp

/-- The dot that does requests it and hands the drawn frame over (R580, R582). -/
theorem dotTick_of_vblank (hdot : p.dot < 456) (h : ppuPos p + 1 = 65664) :
    (dotTick vram oam (p, q)).1.ly = 144 ∧ (dotTick vram oam (p, q)).1.dot = 0 ∧
      (dotTick vram oam (p, q)).2.ifReg.getLsbD 0 = true ∧
      (dotTick vram oam (p, q)).1.frontBuffer = (dotTick vram oam (p, q)).1.framebuffer ∧
      (dotTick vram oam (p, q)).1.framebuffer = p.framebuffer ∧
      (dotTick vram oam (p, q)).1.frameReady = true := by
  obtain ⟨hend, hnext⟩ := (enters_vblank_iff hdot).mpr h
  rw [dotTick_of_lineEnd vram oam q hend, hnext, enterLine_eq (by decide)]
  simp

end

/-! ### Any number of dots -/

section

variable (vram oam : Memory) {p : GPpu} (q : GIrq)

theorem advance_of_off (h : p.lcdOn = false) (c : Nat) : p.advance vram oam c q = (p, q) := by
  rw [advance, if_neg (by simp [h])]

theorem advance_zero : p.advance vram oam 0 q = (p, q) := by
  unfold advance
  split <;> rfl

theorem advance_succ_of_on (h : p.lcdOn = true) (c : Nat) :
    p.advance vram oam (c + 1) q = dotTick vram oam (p.advance vram oam c q) := by
  rw [lcdOn_eq_msb] at h
  rw [advance_eq, advance_eq, if_pos h, if_pos h, Function.iterate_succ_apply']

theorem advance_lcdOn (c : Nat) : (p.advance vram oam c q).1.lcdOn = p.lcdOn := by
  unfold advance
  split
  · exact repeatN_keeps (P := fun s : GPpu × GIrq => s.1.lcdOn = p.lcdOn)
      (fun s hs => (dotTick_lcdOn vram oam s.1 s.2).trans hs) c rfl
  · rfl

variable (hp : p.Inv) (hon : p.lcdOn = true)

include hp hon

/-- `c` dots forward in the frame (R576). -/
theorem ppuPos_advance (c : Nat) : ppuPos (p.advance vram oam c q).1 = (ppuPos p + c) % 70224 := by
  induction c with
  | zero =>
    have hly : p.ly.toNat < 154 := hp.ly
    have hdot : p.dot < 456 := hp.dot
    rw [advance_zero]
    change ppuPos p = (ppuPos p + 0) % 70224
    unfold ppuPos
    omega
  | succ c ih =>
    have hi := hp.advance vram oam c q
    rw [advance_succ_of_on vram oam q hon]
    refine (ppuPos_dotTick vram oam _ hi.ly hi.dot).trans ?_
    rw [ih]
    omega

/-- Before the dot that enters line 144 nothing is requested or handed over. -/
theorem advance_before_vblank {c : Nat} (hc : c < toVblank p) :
    (p.advance vram oam c q).2.ifReg.getLsbD 0 = q.ifReg.getLsbD 0 ∧
      (p.advance vram oam c q).1.frontBuffer = p.frontBuffer ∧
      (p.advance vram oam c q).1.frameReady = p.frameReady := by
  induction c with
  | zero =>
    rw [advance_zero]
    exact ⟨rfl, rfl, rfl⟩
  | succ c ih =>
    obtain ⟨h1, h2, h3⟩ := ih (by omega)
    have hi := hp.advance vram oam c q
    have hpos := ppuPos_advance vram oam q hp hon c
    have hne : ppuPos (p.advance vram oam c q).1 + 1 ≠ 65664 := by
      unfold toVblank at hc
      omega
    obtain ⟨k1, k2, k3⟩ := dotTick_of_not_vblank vram oam (p.advance vram oam c q).2 hi.ly hi.dot hne
    rw [advance_succ_of_on vram oam q hon]
    exact ⟨k1.trans h1, k2.trans h2, k3.trans h3⟩

end

end GPpu

/-- The mode as the statements write it (R575, R579). -/
theorem PpuMode.at_eq (ly dot : Nat) : PpuMode.at ly dot =
    if 144 ≤ ly then .vblank else if dot < 80 then .oamSearch else if dot < 252 then .transfer else .hblank := by
  change (if ly < 144 then if dot < 80 then oamSearch else if dot < 252 then transfer else hblank else vblank) = _
  by_cases h : ly < 144
  · rw [if_pos h, if_neg (Nat.not_le.mpr h)]
  · rw [if_neg h, if_pos (Nat.not_lt.mp h)]

end Sys2Proof.Machine

namespace Sys2Proof.Proofs

open Sys2Proof.Machine

/-- Settles O39: the position counts the dots, and the mode is the invariant's. -/
theorem pictureUnitGeometry : Obligations.PictureUnitGeometry := by
  unfold Obligations.PictureUnitGeometry
  intro p q vram oam c hp p'
  refine ⟨fun hoff => GPpu.advance_of_off vram oam q hoff c, fun hon => ?_⟩
  have hp' : p'.Inv := hp.advance vram oam c q
  refine ⟨hp'.dot, GPpu.ppuPos_advance vram oam q hp hon c, ?_⟩
  rw [hp'.modeOn ((GPpu.advance_lcdOn vram oam q c).trans hon), PpuMode.at_eq]

/-- Settles O40: the position in the frame comes to the start of line 144 at the dot `toVblank`, and not before. -/
theorem verticalBlankOncePerFrame : Obligations.VerticalBlankOncePerFrame := by
  unfold Obligations.VerticalBlankOncePerFrame
  intro p q vram oam hp hon at' d
  obtain ⟨c, hd⟩ : ∃ c, d = c + 1 := ⟨_, rfl⟩
  have hi := hp.advance vram oam c q
  have hpos := GPpu.ppuPos_advance vram oam q hp hon c
  have hstart : ppuPos p < 70224 := by
    have hly : p.ly.toNat < 154 := hp.ly
    have hdot : p.dot < 456 := hp.dot
    unfold ppuPos
    omega
  have hlast : ppuPos (at' c).1 + 1 = 65664 := by
    simp only [d, toVblank] at hd
    rw [hpos]
    omega
  have hstep : at' d = GPpu.dotTick vram oam (at' c) := by rw [hd]; exact GPpu.advance_succ_of_on vram oam q hon c
  obtain ⟨hly, hdot, hbit, hfront, hkept, hready⟩ :=
    GPpu.dotTick_of_vblank vram oam (at' c).2 hi.dot hlast
  rw [hstep, show d - 1 = c by omega]
  refine ⟨by omega, ?_, fun k hk => GPpu.advance_before_vblank vram oam q hp hon hk, hly, hdot, hbit, hfront, hkept,
    hready, ?_⟩
  · exact Nat.mod_lt _ (by decide)
  · rw [toVblank, ppuPos, hly, hdot]
    rfl

/-- Settles O41: a dot passes a threshold inside its line or enters the next line. -/
theorem dotRequests : Obligations.DotRequests := by
  unfold Obligations.DotRequests
  intro p q vram oam hly hdot ly next lineEnd stat vblank
  have hnext : p.nextLine = next := rfl
  rw [GPpu.dotTick_irq vram oam q hly, GPpu.lineStat, hnext]
  by_cases h : p.dot = 455
  · simp [stat, vblank, lineEnd, h]
  · simp [stat, vblank, lineEnd, h, ly]

end Sys2Proof.Proofs
end

section
/-! Proofs. The scanline renderer: the background and the window, the sprites of a line, and the line drawn (R590 to
R599). -/

open Sys2Proof.Stated

namespace Sys2Proof.Machine

theorem b2n_getLsbD (v : Byte) (i : Nat) : b2n (v.getLsbD i) = v.toNat / 2 ^ i % 2 := by
  rw [getLsbD_eq_decide, b2n]
  by_cases h : v.toNat / 2 ^ i % 2 = 1
  · rw [if_pos (decide_eq_true h), h]
  · rw [if_neg (by simpa using h)]
    omega

namespace GPpu

/-! ### The background and the window -/

/-- The two bitplanes of a tile's row (R594). -/
theorem tilePixel_eq (vram : Memory) (addr col row : Nat) : tilePixel vram addr col row =
    2 * ((vram.read (addr + 2 * row + 1)).toNat / 2 ^ (7 - col) % 2) +
      (vram.read (addr + 2 * row)).toNat / 2 ^ (7 - col) % 2 := by
  rw [tilePixel, b2n_getLsbD, b2n_getLsbD]

/-- The tile number unsigned from 0, or signed from 0x1000 (R593). -/
theorem bgTileAddr_eq (p : GPpu) (t : Byte) : p.bgTileAddr t =
    if p.lcdc.toNat / 2 ^ 4 % 2 = 1 then 16 * t.toNat else ((0x1000 : Int) + 16 * t.toInt).toNat := by
  have ht := t.isLt
  have hsigned : (if t.toNat < 0x80 then 0x1000 + 16 * t.toNat else 0x1000 + 16 * t.toNat - 16 * 0x100) =
      ((0x1000 : Int) + 16 * t.toInt).toNat := by
    rw [BitVec.toInt_eq_toNat_cond]
    split_ifs <;> omega
  rw [bgTileAddr, tileData, getLsbD_eq_decide, hsigned]
  simp only [decide_eq_true_eq]

theorem bgWinIndex_eq (p : GPpu) (vram : Memory) (x y : Nat) : p.bgWinIndex vram x y =
    if ¬ p.lcdc.toNat / 2 ^ 0 % 2 = 1 then 0
    else if p.lcdc.toNat / 2 ^ 5 % 2 = 1 ∧ p.wy.toNat ≤ y ∧ p.wx.toNat ≤ 166 ∧ p.wx.toNat ≤ x + 7 then
      p.mapPixel vram (if p.lcdc.toNat / 2 ^ 6 % 2 = 1 then 0x1C00 else 0x1800) (x + 7 - p.wx.toNat) p.winLine.toNat
    else p.mapPixel vram (if p.lcdc.toNat / 2 ^ 3 % 2 = 1 then 0x1C00 else 0x1800)
      ((x + p.scx.toNat) % 256) ((y + p.scy.toNat) % 256) := by
  have hbg : p.bgOn = decide (p.lcdc.toNat / 2 ^ 0 % 2 = 1) := getLsbD_eq_decide ..
  by_cases h : p.lcdc.toNat / 2 ^ 0 % 2 = 1
  · rw [decide_eq_true h] at hbg
    simp only [bgWinIndex, windowOnLine, hbg, winOn, winMap, bgMap, getLsbD_eq_decide, Bool.true_and, Bool.and_eq_true,
      decide_eq_true_eq, and_assoc, h, Bool.not_true, Bool.false_eq_true, not_true_eq_false, if_false]
  · rw [decide_eq_false h] at hbg
    rw [bgWinIndex, hbg, if_pos h]
    rfl

end GPpu

end Sys2Proof.Machine

namespace Sys2Proof.Proofs

open Sys2Proof.Machine

/-- Settles O43: the map, the tile data area and the bitplanes, each as a number. -/
theorem backgroundAndWindowPixels : Obligations.BackgroundAndWindowPixels := by
  unfold Obligations.BackgroundAndWindowPixels
  intro p vram x y _ _ bit tile plane at'
  have hmap (high : Prop) [Decidable high] (mx my : Nat) :
      p.mapPixel vram (if high then 0x1C00 else 0x1800) mx my = at' high mx my := by
    rw [GPpu.mapPixel, GPpu.tilePixel_eq, GPpu.bgTileAddr_eq]
    rfl
  rw [GPpu.bgWinIndex_eq, hmap, hmap]

end Sys2Proof.Proofs
end

section
/-! Proofs. The sprites of a line: which, in which order, and the pixel of each (R595 to R597). -/

open Sys2Proof.Stated

namespace Sys2Proof.Machine

namespace GPpu

/-! ### Selection and order -/

section

variable (oam : Memory)

theorem perm_insertSprite (i : Nat) (l : List Nat) : (insertSprite oam i l).Perm (i :: l) := by
  induction l with
  | nil => exact .refl _
  | cons j rest ih =>
    unfold insertSprite
    split
    · exact .refl _
    · exact (ih.cons j).trans (.swap i j rest)

/-- Sorting loses no sprite and adds none (R596). -/
theorem perm_sortSprites (l : List Nat) : (sortSprites oam l).Perm l := by
  induction l with
  | nil => exact .refl _
  | cons i rest ih => exact (perm_insertSprite oam i _).trans (ih.cons i)

theorem spriteBefore_iff (i j : Nat) : spriteBefore oam i j = true ↔
    (oam.read (4 * i + 1)).toNat < (oam.read (4 * j + 1)).toNat ∨
      ((oam.read (4 * i + 1)).toNat = (oam.read (4 * j + 1)).toNat ∧ i < j) := by
  simp only [spriteBefore, Bool.or_eq_true, Bool.and_eq_true, decide_eq_true_eq]

variable {oam}

theorem spriteBefore_trans {i j k : Nat} (h : spriteBefore oam i j = true) (h' : spriteBefore oam j k = true) :
    spriteBefore oam i k = true := by
  rw [spriteBefore_iff] at *
  omega

/-- Of two sprites one has priority (R596). -/
theorem spriteBefore_of_not {i j : Nat} (hne : i ≠ j) (h : ¬ spriteBefore oam i j = true) :
    spriteBefore oam j i = true := by
  rw [spriteBefore_iff] at *
  omega

theorem pairwise_insertSprite {i : Nat} {l : List Nat} (hi : i ∉ l)
    (hl : l.Pairwise fun a b => spriteBefore oam a b = true) :
    (insertSprite oam i l).Pairwise fun a b => spriteBefore oam a b = true := by
  induction l with
  | nil => exact List.pairwise_singleton _ _
  | cons j rest ih =>
    obtain ⟨hj, hrest⟩ := List.pairwise_cons.mp hl
    obtain ⟨hne, hi'⟩ := List.ne_and_not_mem_of_not_mem_cons hi
    unfold insertSprite
    split_ifs with hb
    · refine List.pairwise_cons.mpr ⟨fun k hk => ?_, hl⟩
      obtain rfl | hk := List.mem_cons.mp hk
      · exact hb
      · exact spriteBefore_trans hb (hj k hk)
    · refine List.pairwise_cons.mpr ⟨fun k hk => ?_, ih hi' hrest⟩
      obtain rfl | hk := mem_insertSprite.mp hk
      · exact spriteBefore_of_not hne hb
      · exact hj k hk

/-- Distinct sprites are sorted by X and then by index (R596). -/
theorem pairwise_sortSprites {l : List Nat} (hl : l.Nodup) :
    (sortSprites oam l).Pairwise fun a b => spriteBefore oam a b = true := by
  induction l with
  | nil => exact .nil
  | cons i rest ih =>
    obtain ⟨hi, hrest⟩ := List.nodup_cons.mp hl
    exact pairwise_insertSprite (fun h => hi (mem_sortSprites.mp h)) (ih hrest)

end

theorem nodup_chosenSprites (p : GPpu) (oam : Memory) (ly : Nat) : (p.chosenSprites oam ly).Nodup := by
  unfold chosenSprites
  split
  · exact (List.nodup_range.filter _).sublist (List.take_sublist _ _)
  · exact List.nodup_nil

/-! ### The pixel -/

/-- The sprite layer shows the first opaque sprite (R597). -/
theorem spritePixel_eq_findSome? (p : GPpu) (vram oam : Memory) (x ly : Nat) (l : List Nat) :
    p.spritePixel vram oam x ly l = l.findSome? (p.pixelOfSprite vram oam x ly) := by
  induction l with
  | nil => rfl
  | cons i rest ih =>
    rw [spritePixel, List.findSome?_cons, ih]
    cases p.pixelOfSprite vram oam x ly i <;> rfl

/-- A tile number made even, as a number (R597). -/
theorem evenTile_eq : ∀ t : Byte, (t &&& 0xFE).toNat = t.toNat / 2 * 2 := by decide

theorem spriteTileAddr_eq (p : GPpu) (oam : Memory) (i : Nat) : p.spriteTileAddr oam i =
    16 * if p.spriteHeight = 16 then (oam.read (4 * i + 2)).toNat / 2 * 2 else (oam.read (4 * i + 2)).toNat := by
  unfold spriteTileAddr spriteHeight
  cases p.objTall
  · rfl
  · exact congrArg (16 * ·) (evenTile_eq _)

theorem spriteRow_eq (p : GPpu) (oam : Memory) (ly i : Nat) : p.spriteRow oam ly i =
    if (oam.read (4 * i + 3)).toNat / 64 % 2 = 1 then
      p.spriteHeight - 1 - (ly + 16 - (oam.read (4 * i)).toNat)
    else ly + 16 - (oam.read (4 * i)).toNat := by
  simp only [spriteRow, getLsbD_eq_decide, decide_eq_true_eq, Nat.reducePow]

/-- Bit 7 of a byte, as a number. -/
theorem getLsbD_seven (b : Byte) : b.getLsbD 7 = decide (b.toNat / 128 = 1) := by
  have hb := b.isLt
  rw [getLsbD_eq_decide]
  exact decide_eq_decide.mpr (by omega)

/-- The pixel of a sprite, its flag bits as numbers (R597). -/
theorem pixelOfSprite_eq (p : GPpu) (vram oam : Memory) (x ly i : Nat) : p.pixelOfSprite vram oam x ly i =
    let sx := (oam.read (4 * i + 1)).toNat
    let attr := (oam.read (4 * i + 3)).toNat
    let col := if attr / 32 % 2 = 1 then 7 - (x + 8 - sx) else x + 8 - sx
    let c := tilePixel vram (p.spriteTileAddr oam i) col (p.spriteRow oam ly i)
    if x + 8 < sx ∨ sx + 7 < x + 8 ∨ c = 0 then none
    else some { c := c, pal := decide (attr / 16 % 2 = 1), behind := decide (attr / 128 = 1) } := by
  simp only [pixelOfSprite, getLsbD_seven]
  simp only [getLsbD_eq_decide, decide_eq_true_eq, Nat.reducePow, ite_or]

end GPpu

end Sys2Proof.Machine

namespace Sys2Proof.Proofs

open Sys2Proof.Machine

/-- Settles O44: insertion sort permutes and sorts, and each sprite's pixel is its tile's two bitplanes. -/
theorem spriteSelectionOrderAndPixels : Obligations.SpriteSelectionOrderAndPixels := by
  unfold Obligations.SpriteSelectionOrderAndPixels
  intro p vram oam ly h y x on l
  have hperm : l.Perm (p.chosenSprites oam ly) := GPpu.perm_sortSprites oam _
  have hon : p.spriteOnLine oam ly = on := by
    funext i
    exact (Bool.decide_and _ _).symm
  refine ⟨fun hoff => ?_, fun hobj => ?_, GPpu.length_selectSprites p oam ly, ?_, fun sx => ?_⟩
  · rw [GPpu.chosenSprites, if_neg (by simpa [GPpu.objOn] using hoff)] at hperm
    exact hperm.eq_nil
  · have hobj : p.objOn = true := hobj
    rw [GPpu.chosenSprites, if_pos hobj, hon] at hperm
    exact hperm
  · exact (GPpu.pairwise_sortSprites (GPpu.nodup_chosenSprites p oam ly)).imp fun hb =>
      (GPpu.spriteBefore_iff oam _ _).mp hb
  · rw [GPpu.spritePixel_eq_findSome?]
    refine congrArg (List.findSome? · l) (funext fun i => ?_)
    simp only [GPpu.pixelOfSprite_eq, GPpu.tilePixel_eq, GPpu.spriteTileAddr_eq, GPpu.spriteRow_eq]
    rfl

end Sys2Proof.Proofs
end

section
/-! Proofs. The line drawn at dot 252 (R590, R592, R598, R599). -/

open Sys2Proof.Stated

namespace Sys2Proof.Machine

namespace Picture

theorem pixel_setRow_self {f : Picture} (hf : f.Ok) (y : Nat) (r : List Shade) (x : Nat) :
    (f.setRow y r).pixel y x = r.getD x 0 :=
  congrArg (·.getD x 0) (sparseRead_write_self hf.1)

theorem pixel_setRow_ne (f : Picture) {y y' : Nat} (h : y' ≠ y) (r : List Shade) (x : Nat) :
    (f.setRow y r).pixel y' x = f.pixel y' x :=
  congrArg (·.getD x 0) (sparseRead_write_ne f h)

end Picture

namespace GPpu

/-- A palette holds two bits for each colour index (R599). -/
theorem shade_eq (pal : Byte) (c : Nat) : shade pal c = BitVec.ofNat 2 (pal.toNat / 4 ^ c) := by
  rw [shade, extractLsb'_eq_ofNat_div, pow_mul]
  rfl

/-- The sprite lies over the background unless it is behind an opaque one (R598). -/
theorem mixPixel_some (p : GPpu) (bg : Nat) (s : SpritePixel) : p.mixPixel bg (some s) =
    if s.behind = true ∧ bg ≠ 0 then shade p.bgp bg else shade (if s.pal then p.obp1 else p.obp0) s.c := by
  simp only [mixPixel, Bool.and_eq_true, bne_iff_ne]

theorem windowOnLine_iff (p : GPpu) (y : Nat) : p.windowOnLine y = true ↔
    p.lcdc.getLsbD 0 = true ∧ p.lcdc.getLsbD 5 = true ∧ p.wy.toNat ≤ y ∧ p.wx.toNat ≤ 166 := by
  simp only [windowOnLine, bgOn, winOn, Bool.and_eq_true, decide_eq_true_eq, and_assoc]

/-- Pixel `x` of a line drawn (R590). -/
theorem getD_renderRow (p : GPpu) (vram oam : Memory) (y : Nat) (l : List Nat) {x : Nat} (hx : x < 160) :
    (p.renderRow vram oam y l).getD x 0 = p.mixPixel (p.bgWinIndex vram x y) (p.spritePixel vram oam x y l) := by
  have hlt : x < (List.range Config.ppuWidth).length := by rwa [List.length_range]
  rw [renderRow, List.getD_eq_getElem?_getD, List.getElem?_map, List.getElem?_eq_getElem hlt, List.getElem_range]
  rfl

/-- The dot is no input of the renderer. -/
theorem renderLine_dot (p : GPpu) (d : Nat) (vram oam : Memory) (y : Nat) :
    { p with dot := d }.renderLine vram oam y = { p.renderLine vram oam y with dot := d } := by
  have hrow (l : List Nat) : { p with dot := d }.renderRow vram oam y l = p.renderRow vram oam y l := by
    simp only [renderRow, spritePixel_eq_findSome?]
    rfl
  rw [renderLine, hrow]
  rfl

theorem dotModes_of_draw {p : GPpu} (q : GIrq) (vram oam : Memory) (hly : p.ly.toNat < 144) (hdot : p.dot = 252) :
    (dotModes vram oam p q).1 = { p.renderLine vram oam p.ly.toNat with mode := .hblank } := by
  have hvisible : p.ly.toNat < Config.ppuVisible := hly
  rw [dotModes, if_pos hvisible, hdot]
  rfl

/-- Dot 252 of a visible line draws it (R577, R590). -/
theorem dotTick_of_draw {p : GPpu} (q : GIrq) (vram oam : Memory) (hly : p.ly.toNat < 144) (hdot : p.dot = 251) :
    (dotTick vram oam (p, q)).1 = { p.renderLine vram oam p.ly.toNat with dot := 252, mode := .hblank } := by
  have hmodes := dotModes_of_draw (p := { p with dot := p.dot + 1 }) q vram oam hly (congrArg (· + 1) hdot)
  rw [dotTick_of_inLine vram oam q (by omega), hmodes, renderLine_dot, hdot]

end GPpu

end Sys2Proof.Machine

namespace Sys2Proof.Proofs

open Sys2Proof.Machine

/-- Settles O42: the dot writes one row, and a pixel of that row is the mix of the two layers. -/
theorem scanlineIsDrawnAtDot252 : Obligations.ScanlineIsDrawnAtDot252 := by
  unfold Obligations.ScanlineIsDrawnAtDot252
  intro p q vram oam hp hly hdot y p' colour
  have hp' : p' = { p.renderLine vram oam y with dot := 252, mode := .hblank } :=
    GPpu.dotTick_of_draw q vram oam hly hdot
  have hshade (pal : Byte) (c : Nat) : GPpu.shade pal c = colour pal c := GPpu.shade_eq pal c
  rw [hp']
  refine ⟨rfl, rfl, rfl, fun x hx => ?_, fun y' x hne => Picture.pixel_setRow_ne _ hne _ x, rfl, ?_⟩
  · refine (Picture.pixel_setRow_self hp.framebuffer y _ x).trans ?_
    rw [GPpu.getD_renderRow _ _ _ _ _ hx]
    cases p.spritePixel vram oam x y (p.selectSprites oam y) with
    | none => exact hshade ..
    | some s => simp only [GPpu.mixPixel_some, hshade]
  · change (if p.windowOnLine y then p.winLine + 1 else p.winLine).toNat = _
    simp only [← GPpu.windowOnLine_iff]
    split_ifs
    · exact BitVec.toNat_add ..
    · rfl

end Sys2Proof.Proofs
end
